-- ==== Sys2Proof/Word.lean ====
section
/-! DEFINITION. The two word sizes of the block: the byte (spec/00_scope.md R13) and the 16-bit field
(spec/20_memory.md R40). -/

namespace Sys2Proof

/-- A byte: 8 bits, an unsigned value 0..255 (R13). -/
abbrev Byte := BitVec 8

/-- A 16-bit field or checksum (R40, R80). -/
abbrev Word16 := BitVec 16

end Sys2Proof
end

