-- ==== Sys2Proof/Config.lean ====
section
/-! DEFINITION. What one context is configured with (spec/00_scope.md R10, spec/30_encoding.md R68 to R70) and
the two free values. The functions over a configuration (look-ups, the constraints of R11, the
reference configurations) stand in Machine/Tables.lean. -/

namespace Sys2Proof

/-- The closed set of NAK causes, in the source's order (R68). -/
inductive NakReason where
  | noReason
  | invalidStartByte
  | invalidLength
  | checksumError
  | reserved
  | timeout
  | unsupportedMessageType
  | requestNotSupported
  deriving DecidableEq, Repr

/-- The wire code of each NAK cause, `NAK_CODE` (R10, R68). -/
structure NakCodes where
  noReason : Byte
  invalidStartByte : Byte
  invalidLength : Byte
  checksumError : Byte
  reserved : Byte
  timeout : Byte
  unsupportedMessageType : Byte
  requestNotSupported : Byte
  deriving DecidableEq, Repr

/-- The handling class of an opcode-table entry (R69). The sentinel `NotInTable` is the absence of an entry. -/
inductive OpClass where
  | pureAck
  | response
  | customerOverride
  | maxPayloadReq
  | maxPayloadResp
  | getUtcReq
  deriving DecidableEq, Repr

/-- The names of the Basic table (R70). -/
inductive BasicOp where
  | appAck
  | appNak
  | operStateResp
  | customerOverride
  | pureAckExtra
  | responseExtra
  deriving DecidableEq, Repr

/-- The names of the DataLink table (R70). -/
inductive DataLinkOp where
  | maxPayloadReq
  | maxPayloadResp
  | pureAckExtra
  | responseExtra
  deriving DecidableEq, Repr

/-- The names of the Intermediate table (R70). -/
inductive IntermediateOp where
  | getUtcReq
  | utcResp
  | pureAckExtra
  | responseExtra
  deriving DecidableEq, Repr

/-- The three full-frame categories (glossary of spec/00_scope.md; R67). -/
inductive Category where
  | basic
  | dataLink
  | intermediate
  deriving DecidableEq, Repr

/-- The configuration of one context: every parameter of R10 that the source leaves to the implementer. A table is a
list of keys with the name of the operation; the name fixes the class (R70; log 19). -/
structure Config where
  /-- `C`, the capacity of the AssemblyBuffer. -/
  cap : Nat
  /-- `LMAX`, the largest accepted declared length. -/
  lmax : Nat
  /-- `ACK_T2`, the second byte of the link-layer ACK. -/
  ackT2 : Byte
  /-- `NAK_CODE`. -/
  nakCode : NakCodes
  /-- `OPTAB_BASIC`, keyed by `opcode1`. -/
  basic : List (Byte × BasicOp)
  /-- `OPTAB_DATALINK`, keyed by `opcode1`. -/
  dataLink : List (Byte × DataLinkOp)
  /-- `OPTAB_INTERMEDIATE`, keyed by `(opcode1, opcode2)`. -/
  intermediate : List ((Byte × Byte) × IntermediateOp)
  /-- `OP_BASIC_APP_ACK`. -/
  opBasicAppAck : Byte
  /-- `OP_DL_MAX_PAYLOAD_RESP`. -/
  opDlMaxPayloadResp : Byte
  /-- `OP_INT_UTC_RESP`. -/
  opIntUtcResp : Byte × Byte
  /-- `MAX_PAYLOAD_CLASS`. -/
  maxPayloadClass : Byte
  /-- `UTC_N`. -/
  utcN : Nat
  /-- `QIN_CAP`, the capacity of the inbound queue. -/
  qinCap : Nat
  /-- `QOUT_CAP`, the capacity of the outbound queue. -/
  qoutCap : Nat
  deriving DecidableEq, Repr

/-- FREE VALUE (log 8). Whether the producer keeps the byte at index `i` of the inbound queue followed by the arriving
chunk, at the `n`-th arrival that does not fit. The source gives no policy (spec/93 U9, spec/91 N12), so nothing is known
of it. -/
opaque Config.keepOnFull : Nat → Nat → Bool

/-- FREE VALUE (log 3). The bytes handed over as the UTC-time response where `UTC_N + 2` exceeds 65535: R28 lets `UTC_N` be
any natural number, and R93 says that so long a body cannot be encoded. The spec states no bytes, so nothing is known of
them; they are the same every time (R136). -/
opaque Config.unencodedUtc : Nat → List Byte

end Sys2Proof
end

