-- ==== Sys2Proof/Syntax.lean ====
section
/-! DEFINITION. The values of the Wire Message Model (spec/41_wire_model.md R90), the events of the Assembler
(spec/42_assembler.md R100) and the instructions: one constructor for each row of spec/opcode_table.json
(spec/30_encoding.md R71). -/

namespace Sys2Proof

/-- A control frame value (R90). -/
inductive Ctrl where
  | ack
  | nak (reason : NakReason)
  deriving DecidableEq, Repr

/-- A frame value (R90). A full frame stores no checksum: it is a function of the other fields. -/
inductive Frame where
  | ctrl (c : Ctrl)
  | full (type1 type2 : Byte) (body : List Byte)
  deriving DecidableEq, Repr

/-- Why a resynchronization happened (R100, R108, R110). -/
inductive ResyncCause where
  | length
  | checksum
  deriving DecidableEq, Repr

/-- An event of `ingest` (R100). -/
inductive Event where
  | frame (fr : Frame)
  | loss (d : Nat)
  | resync (cause : ResyncCause)
  deriving DecidableEq, Repr

/-- Why DEC.FULL finds no frame (R95). -/
inductive Invalid where
  | tooShort
  | lengthMismatch
  | checksum
  deriving DecidableEq, Repr

/-- The answer of DEC.FULL (R95). -/
inductive FullResult where
  | full (type1 type2 : Byte) (body : List Byte)
  | invalid (cause : Invalid)
  deriving DecidableEq, Repr

/-- The answer of TX.ENQUEUE (R154). -/
inductive TxResult where
  | ok
  | resourceExhausted
  | notReady
  deriving DecidableEq, Repr

/-- The instructions. Part (A): a received unit, one constructor for each row; `op` is `opcode1`, `args` the body after it
(`opcode2` and payload; empty when `L = 1`), `payload` the body after both opcode bytes, `body` the whole body of a frame
whose opcode bytes may be absent. Part (B): the port operations and their steps with the operands of their signatures.
Part (C): the emitted templates. -/
inductive Instr where
  -- (A) received units
  | linkAck
  | linkNak (reason : NakReason)
  | basicAppAck (op : Byte) (args : List Byte)
  | basicAppNak (op : Byte) (args : List Byte)
  | basicOperStateResp (op : Byte) (args : List Byte)
  | basicPureackExtra (op : Byte) (args : List Byte)
  | basicCustomerOverride (op : Byte) (args : List Byte)
  | basicResponseExtra (op : Byte) (args : List Byte)
  | basicUnknown (body : List Byte)
  | dlMaxPayloadReq (op : Byte) (args : List Byte)
  | dlMaxPayloadResp (op : Byte) (args : List Byte)
  | dlAckExtra (op : Byte) (args : List Byte)
  | dlUnknown (body : List Byte)
  | intGetUtcReq (op1 op2 : Byte)
  | intGetUtcReqBadlen (op1 op2 : Byte) (payload : List Byte)
  | intUtcResp (op1 op2 : Byte) (payload : List Byte)
  | intAckExtra (op1 op2 : Byte) (payload : List Byte)
  | intUnknown (body : List Byte)
  | unknownCategory (type1 type2 : Byte) (body : List Byte)
  -- (B) port operations and their steps
  | checksum (bytes : List Byte)
  | ckInit
  | ckByte (c1 c2 : Byte) (b : Byte)
  | ckFinal (c1 c2 : Byte)
  | encLinkAck
  | encLinkNak (reason : NakReason)
  | encFull (type1 type2 : Byte) (body : List Byte)
  | decCtrl (b0 b1 : Byte)
  | decFull (bytes : List Byte)
  | ingest (chunk : List Byte)
  | asmOverflow (chunk : List Byte)
  | asmAppend (chunk : List Byte)
  | asmCtrlAck
  | asmCtrlNak
  | asmWaitShort
  | asmResyncLen
  | asmWaitBody
  | asmResyncCk
  | asmEmitFull
  | bufferReset
  | dispatch (fr : Frame)
  | rxNotify (chunk : List Byte)
  | workerLoop
  | txEnqueue (bytes : List Byte)
  -- (C) emitted templates
  | txLinkAck
  | txLinkNak (reason : NakReason)
  | txBasicAppAck (echo : Byte)
  | txDlMaxPayloadResp
  | txIntUtcResp
  deriving DecidableEq, Repr

end Sys2Proof
end

