-- ==== Sys2Proof/Machine/Tables.lean ====
section
/-! DEFINITION. The read-only tables of a context and the look-ups in them (spec/10_state.md R29, spec/30_encoding.md R67
to R70), the constraints every configuration must meet (spec/00_scope.md R11) and the two reference configurations
(R12). -/

namespace Sys2Proof.Machine

/-! ### Constants the source fixes (R10) -/

/-- `ACK_T1`. -/
def ackT1 : Byte := 0x06
/-- `NAK_T1`. -/
def nakT1 : Byte := 0x15
/-- The first byte of all three category type pairs. -/
def catT1 : Byte := 0x08

/-- The second type byte of each category: `T_BASIC`, `T_DATALINK`, `T_INTERMEDIATE` (R10, R67). -/
def catT2 : Category → Byte
  | .basic => 0x01
  | .dataLink => 0x03
  | .intermediate => 0x02

/-- The category of a type pair; `none` is `Unsupported` (R67). -/
def categoryOf (t1 t2 : Byte) : Option Category :=
  if t1 = catT1 ∧ t2 = catT2 .basic then some .basic
  else if t1 = catT1 ∧ t2 = catT2 .dataLink then some .dataLink
  else if t1 = catT1 ∧ t2 = catT2 .intermediate then some .intermediate
  else none

/-! ### The NakReason table (R68) -/

/-- `NAK_CODE(r)`. -/
def nakByte (k : NakCodes) : NakReason → Byte
  | .noReason => k.noReason
  | .invalidStartByte => k.invalidStartByte
  | .invalidLength => k.invalidLength
  | .checksumError => k.checksumError
  | .reserved => k.reserved
  | .timeout => k.timeout
  | .unsupportedMessageType => k.unsupportedMessageType
  | .requestNotSupported => k.requestNotSupported

/-- The eight reasons in the source's order. -/
def allReasons : List NakReason :=
  [.noReason, .invalidStartByte, .invalidLength, .checksumError, .reserved, .timeout,
    .unsupportedMessageType, .requestNotSupported]

/-- The inverse of `NAK_CODE` on the eight codes; `none` where the byte is no NakReason code. -/
def nakReasonOf (k : NakCodes) (b : Byte) : Option NakReason :=
  allReasons.find? fun r => nakByte k r == b

/-! ### The opcode tables (R69, R70) -/

/-- The class of a Basic entry. -/
def basicClass : BasicOp → OpClass
  | .appAck => .pureAck
  | .appNak => .pureAck
  | .operStateResp => .pureAck
  | .pureAckExtra => .pureAck
  | .customerOverride => .customerOverride
  | .responseExtra => .response

/-- The class of a DataLink entry. -/
def dataLinkClass : DataLinkOp → OpClass
  | .maxPayloadReq => .maxPayloadReq
  | .maxPayloadResp => .maxPayloadResp
  | .pureAckExtra => .pureAck
  | .responseExtra => .response

/-- The class of an Intermediate entry. -/
def intermediateClass : IntermediateOp → OpClass
  | .getUtcReq => .getUtcReq
  | .utcResp => .response
  | .pureAckExtra => .pureAck
  | .responseExtra => .response

/-- The classes R69 allows in each category. -/
def classAllowed : Category → OpClass → Bool
  | _, .pureAck => true
  | _, .response => true
  | .basic, .customerOverride => true
  | .dataLink, .maxPayloadReq => true
  | .dataLink, .maxPayloadResp => true
  | .intermediate, .getUtcReq => true
  | _, _ => false

/-- The name of the Basic entry with a given key: `OP_BASIC_APP_ACK` is the application acknowledgement whatever name it is
listed under, and no other key is (R70, R71; log 19). The class is the listed one's. -/
def basicName (cfg : Config) (opcode1 : Byte) (listed : BasicOp) : BasicOp :=
  if opcode1 = cfg.opBasicAppAck then .appAck else if listed = .appAck then .pureAckExtra else listed

/-- The name of the Intermediate entry with a given key: `OP_INT_UTC_RESP` is the UTC-time response, and no other key is
(R70, R71; log 19). -/
def intermediateName (cfg : Config) (key : Byte × Byte) (listed : IntermediateOp) : IntermediateOp :=
  if key = cfg.opIntUtcResp then .utcResp else if listed = .utcResp then .responseExtra else listed

/-- Look-up in `OPTAB_BASIC`; `none` is the sentinel `NotInTable` (R69, R124). -/
def basicOp (cfg : Config) (opcode1 : Byte) : Option BasicOp :=
  (cfg.basic.lookup opcode1).map (basicName cfg opcode1)

/-- Look-up in `OPTAB_DATALINK` (R69, R124). -/
def dataLinkOp (cfg : Config) (opcode1 : Byte) : Option DataLinkOp :=
  cfg.dataLink.lookup opcode1

/-- Look-up in `OPTAB_INTERMEDIATE`, keyed by the pair (R69, R124). -/
def intermediateOp (cfg : Config) (opcode1 opcode2 : Byte) : Option IntermediateOp :=
  (cfg.intermediate.lookup (opcode1, opcode2)).map (intermediateName cfg (opcode1, opcode2))

/-! ### The constraints on a configuration -/

/-- The constraints of R11, with the distinct keys of R70. Item (4) of R11 holds by the form of the tables: an entry's name
fixes a class its category allows. -/
def configOk (cfg : Config) : Bool :=
  decide (cfg.lmax + 6 ≤ cfg.cap)
  && decide (cfg.lmax ≤ 65529)
  && decide (allReasons.map (nakByte cfg.nakCode)).Nodup
  && decide (cfg.basic.map Prod.fst).Nodup
  && decide (cfg.dataLink.map Prod.fst).Nodup
  && decide (cfg.intermediate.map Prod.fst).Nodup
  && decide ((cfg.basic.lookup cfg.opBasicAppAck).map basicClass = some .pureAck)
  && decide ((cfg.dataLink.lookup cfg.opDlMaxPayloadResp).map dataLinkClass = some .maxPayloadResp)
  && decide ((cfg.intermediate.lookup cfg.opIntUtcResp).map intermediateClass = some .response)

/-! ### The reference configurations (R12; recalled values: log 2) -/

/-- `NAK_CODE` = 0x00..0x07 in the source's order (R68, D5). -/
def refNakCodes : NakCodes :=
  ⟨0x00, 0x01, 0x02, 0x03, 0x04, 0x05, 0x06, 0x07⟩

/-- `REF` of R12 with the default tables of R70. The queue capacities are the model's (log 1). -/
def refConfig : Config where
  cap := 64
  lmax := 32
  ackT2 := 0x00
  nakCode := refNakCodes
  basic := [(0x03, .appAck), (0x04, .appNak), (0x13, .operStateResp), (0x11, .customerOverride)]
  dataLink := [(0x18, .maxPayloadReq), (0x19, .maxPayloadResp)]
  intermediate := [((0x02, 0x00), .getUtcReq), ((0x02, 0x80), .utcResp)]
  opBasicAppAck := 0x03
  opDlMaxPayloadResp := 0x19
  opIntUtcResp := (0x02, 0x80)
  maxPayloadClass := 0x02
  utcN := 7
  qinCap := 64
  qoutCap := 64

/-- `SMALL` of R12. -/
def smallConfig : Config := { refConfig with cap := 16, lmax := 10 }

end Sys2Proof.Machine
end

