-- ==== Sys2Proof/Machine/Operands.lean ====
section
/-! DEFINITION. How operands are put together from bytes (spec/30_encoding.md R65, R66; spec/20_memory.md R40, R43):
big-endian fields, the declared length, the stored checksum, the opcode bytes and the payload of a body. -/

namespace Sys2Proof.Machine

/-- `u16be(h, l) = 256*h + l`, high byte first (R13, R40). -/
def u16be (h l : Byte) : Word16 := BitVec.ofNat 16 (256 * h.toNat + l.toNat)

/-- `v[15:8]`. -/
def hiByte (v : Word16) : Byte := BitVec.ofNat 8 (v.toNat / 256)

/-- `v[7:0]`. -/
def loByte (v : Word16) : Byte := BitVec.ofNat 8 v.toNat

/-- The two bytes of a 16-bit field on the wire, high byte first (R40). -/
def beBytes (v : Word16) : List Byte := [hiByte v, loByte v]

/-- The byte at offset `i` from the front (R14, R45). Defined only for `i < len(s)`; every caller reads below the number
of bytes present, so the 0 beyond it is never seen. -/
def byteAt (s : List Byte) (i : Nat) : Byte := s.getD i 0

/-- `MemRead(a, 2)` (R14, R43). -/
def memRead2 (s : List Byte) (a : Nat) : Word16 := u16be (byteAt s a) (byteAt s (a + 1))

/-- The declared length `L` of the candidate at the front, a natural number (R64, R65). -/
def declaredLength (s : List Byte) : Nat := (memRead2 s 2).toNat

/-- `K_stored`, the stored checksum of a candidate of declared length `L` (R65). -/
def storedChecksum (s : List Byte) (L : Nat) : Word16 := memRead2 s (L + 4)

/-- The bytes the checksum covers, offsets `0 .. L+3` (R65, R84). -/
def coveredBytes (s : List Byte) (L : Nat) : List Byte := s.take (L + 4)

/-- The body of a candidate, offsets `4 .. L+3` (R63). -/
def bodyBytes (s : List Byte) (L : Nat) : List Byte := (s.drop 4).take L

/-- `opcode1`, present when `L ≥ 1` (R66). -/
def opcode1 : List Byte → Option Byte
  | [] => none
  | b :: _ => some b

/-- `opcode2`, present when `L ≥ 2` (R66). -/
def opcode2 : List Byte → Option Byte
  | _ :: b :: _ => some b
  | _ => none

/-- The payload: the body after the opcode bytes, none when `L ≤ 2` (R66). -/
def payload (body : List Byte) : List Byte := body.drop 2

/-- Look-up of an opcode byte that may be absent: an absent key gives `NotInTable` (R66, R124). -/
def lookupBasic (cfg : Config) (body : List Byte) : Option BasicOp :=
  (opcode1 body).bind (basicOp cfg)

/-- As `lookupBasic`, in `OPTAB_DATALINK`. -/
def lookupDataLink (cfg : Config) (body : List Byte) : Option DataLinkOp :=
  (opcode1 body).bind (dataLinkOp cfg)

/-- Look-up of the pair `(opcode1, opcode2)`, `NotInTable` when a byte of it is absent (R124). -/
def lookupIntermediate (cfg : Config) (body : List Byte) : Option IntermediateOp :=
  (opcode1 body).bind fun a => (opcode2 body).bind fun b => intermediateOp cfg a b

end Sys2Proof.Machine
end

