-- ==== Sys2Proof/Machine/Wire.lean ====
section
/-! DEFINITION. The pure functions of the Checksum Engine (spec/40_checksum.md R80 to R88) and of the Wire Message Model
(spec/41_wire_model.md R91 to R95). No state. -/

namespace Sys2Proof.Machine

/-! ### Checksum Engine -/

/-- The two 8-bit accumulators of one computation (R25). -/
structure Acc where
  c1 : Byte
  c2 : Byte
  deriving DecidableEq, Repr

/-- CK.INIT: the seeds (R81). -/
def ckSeed : Acc := ⟨0xAA, 0⟩

/-- CK.BYTE: one byte, sums over the naturals before `mod 255`; the second update uses the new `c1` (R82, R86). -/
def ckAccumulate (a : Acc) (b : Byte) : Acc :=
  let c1 := (a.c1.toNat + b.toNat) % 255
  let c2 := (a.c2.toNat + c1) % 255
  ⟨BitVec.ofNat 8 c1, BitVec.ofNat 8 c2⟩

/-- CK.FINAL: the two result bytes packed high byte first; the low byte uses the high one (R83). -/
def ckFinish (a : Acc) : Word16 :=
  let hi := 255 - (a.c1.toNat + a.c2.toNat) % 255
  let lo := 255 - (a.c1.toNat + hi) % 255
  BitVec.ofNat 16 (256 * hi + lo)

/-- `CK(s)` (R80). -/
def checksum (s : List Byte) : Word16 := ckFinish (s.foldl ckAccumulate ckSeed)

/-! ### Encoders -/

/-- ENC.LINK_ACK (R91). -/
def encodeLinkAck (cfg : Config) : List Byte := [ackT1, cfg.ackT2]

/-- ENC.LINK_NAK (R92). -/
def encodeLinkNak (cfg : Config) (r : NakReason) : List Byte := [nakT1, nakByte cfg.nakCode r]

/-- The bytes of a full frame before its checksum: type pair, big-endian length, body (R93). -/
def fullHead (t1 t2 : Byte) (body : List Byte) : List Byte :=
  t1 :: t2 :: (beBytes (BitVec.ofNat 16 body.length) ++ body)

/-- A byte sequence followed by its checksum, high byte first (R84, R93). -/
def stamp (pre : List Byte) : List Byte := pre ++ beBytes (checksum pre)

/-- ENC.FULL for a body of at most 65535 bytes (R93). -/
def encodeFull (t1 t2 : Byte) (body : List Byte) : List Byte := stamp (fullHead t1 t2 body)

/-- ENC.FULL with the type pair of a category. -/
def encodeCategory (c : Category) (body : List Byte) : List Byte := encodeFull catT1 (catT2 c) body

/-! ### Decoders -/

/-- DEC.CTRL; `none` is `NoMatch` (R94). -/
def decodeCtrl (cfg : Config) (b0 b1 : Byte) : Option Ctrl :=
  if b0 = ackT1 ∧ b1 = cfg.ackT2 then some .ack
  else if b0 = nakT1 then (nakReasonOf cfg.nakCode b1).map .nak
  else none

/-- DEC.FULL (R95). -/
def decodeFull (f : List Byte) : FullResult :=
  if f.length < 6 then .invalid .tooShort
  else
    let L := declaredLength f
    if f.length ≠ L + 6 then .invalid .lengthMismatch
    else if checksum (coveredBytes f L) ≠ storedChecksum f L then .invalid .checksum
    else .full (byteAt f 0) (byteAt f 1) (bodyBytes f L)

/-- DEC.CTRL of the first two bytes, where two are present (R74, R105). -/
def frontCtrl (cfg : Config) : List Byte → Option Ctrl
  | b0 :: b1 :: _ => decodeCtrl cfg b0 b1
  | _ => none

/-! ### The emitted templates (R73) -/

/-- The body of `TX.BASIC_APP_ACK(op)` (R129, D18). -/
def appAckBody (cfg : Config) (echo : Byte) : List Byte := [cfg.opBasicAppAck, echo]

/-- The body of `TX.DL_MAX_PAYLOAD_RESP` (R132, D18). -/
def maxPayloadBody (cfg : Config) : List Byte := [cfg.opDlMaxPayloadResp, cfg.maxPayloadClass]

/-- The body of `TX.INT_UTC_RESP`: the opcode pair and `UTC_N` zero bytes (R137). -/
def utcBody (cfg : Config) : List Byte :=
  cfg.opIntUtcResp.1 :: cfg.opIntUtcResp.2 :: List.replicate cfg.utcN 0

/-- `TX.BASIC_APP_ACK(op)`. -/
def appAckFrame (cfg : Config) (echo : Byte) : List Byte := encodeCategory .basic (appAckBody cfg echo)

/-- `TX.DL_MAX_PAYLOAD_RESP`. -/
def maxPayloadFrame (cfg : Config) : List Byte := encodeCategory .dataLink (maxPayloadBody cfg)

/-- `TX.INT_UTC_RESP`. Where the body has more bytes than a length field can declare, it cannot be encoded (R93), and what
is handed over in its place is a free value (log 3). -/
def utcFrame (cfg : Config) : List Byte :=
  if cfg.utcN + 2 ≤ 65535 then encodeCategory .intermediate (utcBody cfg) else Config.unencodedUtc cfg.utcN

end Sys2Proof.Machine
end

