-- ==== Sys2Proof/WellFormed.lean ====
section
/-! DEFINITION. Which terms of Instr stand for an instruction of a context with configuration `cfg`: the "Selected when"
column of spec/30_encoding.md R71 for the received units, the operand ranges of spec/40_checksum.md R82, R83,
spec/41_wire_model.md R90, R93 and spec/42_assembler.md R102, R104 for the port operations, and the reasons ever sent
(R73, R167) and a declarable length for the templates. -/

namespace Sys2Proof

/-- The longest body a 16-bit length can declare (R90). -/
def maxBody : Nat := 65535

/-- A frame value of R90: the body's length fits the length field. -/
def Frame.wf : Frame → Bool
  | .ctrl _ => true
  | .full _ _ body => decide (body.length ≤ maxBody)

/-- Well-formed instructions of a context. -/
def Instr.wf (cfg : Config) : Instr → Bool
  | .linkAck => true
  | .linkNak _ => true
  | .basicAppAck op args => decide (Machine.basicOp cfg op = some .appAck ∧ args.length + 1 ≤ maxBody)
  | .basicAppNak op args => decide (Machine.basicOp cfg op = some .appNak ∧ args.length + 1 ≤ maxBody)
  | .basicOperStateResp op args => decide (Machine.basicOp cfg op = some .operStateResp ∧ args.length + 1 ≤ maxBody)
  | .basicPureackExtra op args => decide (Machine.basicOp cfg op = some .pureAckExtra ∧ args.length + 1 ≤ maxBody)
  | .basicCustomerOverride op args => decide (Machine.basicOp cfg op = some .customerOverride ∧ args.length + 1 ≤ maxBody)
  | .basicResponseExtra op args => decide (Machine.basicOp cfg op = some .responseExtra ∧ args.length + 1 ≤ maxBody)
  | .basicUnknown body => decide (Machine.lookupBasic cfg body = none ∧ body.length ≤ maxBody)
  | .dlMaxPayloadReq op args => decide (Machine.dataLinkOp cfg op = some .maxPayloadReq ∧ args.length + 1 ≤ maxBody)
  | .dlMaxPayloadResp op args => decide (Machine.dataLinkOp cfg op = some .maxPayloadResp ∧ args.length + 1 ≤ maxBody)
  | .dlAckExtra op args =>
    decide ((Machine.dataLinkOp cfg op = some .pureAckExtra ∨ Machine.dataLinkOp cfg op = some .responseExtra)
      ∧ args.length + 1 ≤ maxBody)
  | .dlUnknown body => decide (Machine.lookupDataLink cfg body = none ∧ body.length ≤ maxBody)
  | .intGetUtcReq op1 op2 => decide (Machine.intermediateOp cfg op1 op2 = some .getUtcReq)
  | .intGetUtcReqBadlen op1 op2 payload =>
    decide (Machine.intermediateOp cfg op1 op2 = some .getUtcReq ∧ payload ≠ [] ∧ payload.length + 2 ≤ maxBody)
  | .intUtcResp op1 op2 payload =>
    decide (Machine.intermediateOp cfg op1 op2 = some .utcResp ∧ payload.length + 2 ≤ maxBody)
  | .intAckExtra op1 op2 payload =>
    decide ((Machine.intermediateOp cfg op1 op2 = some .pureAckExtra
        ∨ Machine.intermediateOp cfg op1 op2 = some .responseExtra) ∧ payload.length + 2 ≤ maxBody)
  | .intUnknown body => decide (Machine.lookupIntermediate cfg body = none ∧ body.length ≤ maxBody)
  | .unknownCategory t1 t2 body =>
    decide (Machine.categoryOf t1 t2 = none ∧ Machine.decodeCtrl cfg t1 t2 = none ∧ body.length ≤ maxBody)
  | .checksum _ => true
  | .ckInit => true
  | .ckByte c1 c2 _ => decide (c1.toNat ≤ 254 ∧ c2.toNat ≤ 254)
  | .ckFinal c1 c2 => decide (c1.toNat ≤ 254 ∧ c2.toNat ≤ 254)
  | .encLinkAck => true
  | .encLinkNak _ => true
  | .encFull _ _ body => decide (body.length ≤ maxBody)
  | .decCtrl _ _ => true
  | .decFull _ => true
  | .ingest _ => true
  | .asmOverflow chunk => decide (chunk.length ≤ cfg.cap)
  | .asmAppend chunk => decide (chunk.length ≤ cfg.cap)
  | .asmCtrlAck => true
  | .asmCtrlNak => true
  | .asmWaitShort => true
  | .asmResyncLen => true
  | .asmWaitBody => true
  | .asmResyncCk => true
  | .asmEmitFull => true
  | .bufferReset => true
  | .dispatch fr => fr.wf
  | .rxNotify _ => true
  | .workerLoop => true
  | .txEnqueue _ => true
  | .txLinkAck => true
  | .txLinkNak r => decide (r = .unsupportedMessageType ∨ r = .requestNotSupported)
  | .txBasicAppAck _ => true
  | .txDlMaxPayloadResp => true
  | .txIntUtcResp => decide (cfg.utcN + 2 ≤ maxBody)

/-- The received units: part (A) of R71. -/
def Instr.isReceived : Instr → Bool
  | .linkAck => true
  | .linkNak _ => true
  | .basicAppAck _ _ => true
  | .basicAppNak _ _ => true
  | .basicOperStateResp _ _ => true
  | .basicPureackExtra _ _ => true
  | .basicCustomerOverride _ _ => true
  | .basicResponseExtra _ _ => true
  | .basicUnknown _ => true
  | .dlMaxPayloadReq _ _ => true
  | .dlMaxPayloadResp _ _ => true
  | .dlAckExtra _ _ => true
  | .dlUnknown _ => true
  | .intGetUtcReq _ _ => true
  | .intGetUtcReqBadlen _ _ _ => true
  | .intUtcResp _ _ _ => true
  | .intAckExtra _ _ _ => true
  | .intUnknown _ => true
  | .unknownCategory _ _ _ => true
  | .checksum _ => false
  | .ckInit => false
  | .ckByte _ _ _ => false
  | .ckFinal _ _ => false
  | .encLinkAck => false
  | .encLinkNak _ => false
  | .encFull _ _ _ => false
  | .decCtrl _ _ => false
  | .decFull _ => false
  | .ingest _ => false
  | .asmOverflow _ => false
  | .asmAppend _ => false
  | .asmCtrlAck => false
  | .asmCtrlNak => false
  | .asmWaitShort => false
  | .asmResyncLen => false
  | .asmWaitBody => false
  | .asmResyncCk => false
  | .asmEmitFull => false
  | .bufferReset => false
  | .dispatch _ => false
  | .rxNotify _ => false
  | .workerLoop => false
  | .txEnqueue _ => false
  | .txLinkAck => false
  | .txLinkNak _ => false
  | .txBasicAppAck _ => false
  | .txDlMaxPayloadResp => false
  | .txIntUtcResp => false

end Sys2Proof
end

