-- ==== Sys2Proof/Decode.lean ====
section
/-! DEFINITION. The decoder of received units and, after it, the encoder (spec/30_encoding.md R61 to R74,
spec/41_wire_model.md R94 to R96). Decoding is total on any bytes and rejects by name. -/

namespace Sys2Proof

/-! ### Decoder -/

/-- Why a byte sequence is no received unit. `overlong`: the first two bytes are a control frame, so the unit ends there
(R74), and bytes follow; the other three are DEC.FULL's causes (R95). -/
inductive DecodeError where
  | overlong
  | tooShort
  | lengthMismatch
  | checksum
  deriving DecidableEq, Repr

/-- The decoder's name of a cause of DEC.FULL. -/
def decodeErrorOf : Invalid → DecodeError
  | .tooShort => .tooShort
  | .lengthMismatch => .lengthMismatch
  | .checksum => .checksum

/-- The frame value of a byte sequence that holds exactly one received unit: a control frame is tried first, then the
full frame (R74). -/
def decodeFrame (cfg : Config) (bytes : List Byte) : Except DecodeError Frame :=
  match Machine.frontCtrl cfg bytes with
  | some c => if bytes.length = 2 then .ok (.ctrl c) else .error .overlong
  | none =>
    match Machine.decodeFull bytes with
    | .full t1 t2 body => .ok (.full t1 t2 body)
    | .invalid cause => .error (decodeErrorOf cause)

/-- The row of a Basic frame (R71, R124). -/
def classifyBasic (cfg : Config) (body : List Byte) : Instr :=
  match body with
  | [] => .basicUnknown []
  | op :: args =>
    match Machine.basicOp cfg op with
    | some .appAck => .basicAppAck op args
    | some .appNak => .basicAppNak op args
    | some .operStateResp => .basicOperStateResp op args
    | some .customerOverride => .basicCustomerOverride op args
    | some .pureAckExtra => .basicPureackExtra op args
    | some .responseExtra => .basicResponseExtra op args
    | none => .basicUnknown (op :: args)

/-- The row of a DataLink frame (R71, R124). -/
def classifyDataLink (cfg : Config) (body : List Byte) : Instr :=
  match body with
  | [] => .dlUnknown []
  | op :: args =>
    match Machine.dataLinkOp cfg op with
    | some .maxPayloadReq => .dlMaxPayloadReq op args
    | some .maxPayloadResp => .dlMaxPayloadResp op args
    | some .pureAckExtra => .dlAckExtra op args
    | some .responseExtra => .dlAckExtra op args
    | none => .dlUnknown (op :: args)

/-- The row of an Intermediate frame: the key is the pair, and the get-UTC-time request is told apart by `L = 2`
(R71, R124, R136, R138). -/
def classifyIntermediate (cfg : Config) (body : List Byte) : Instr :=
  match body with
  | op1 :: op2 :: payload =>
    match Machine.intermediateOp cfg op1 op2 with
    | some .getUtcReq => if payload = [] then .intGetUtcReq op1 op2 else .intGetUtcReqBadlen op1 op2 payload
    | some .utcResp => .intUtcResp op1 op2 payload
    | some .pureAckExtra => .intAckExtra op1 op2 payload
    | some .responseExtra => .intAckExtra op1 op2 payload
    | none => .intUnknown body
  | _ => .intUnknown body

/-- The received unit a frame value is: one row of part (A) of R71 for every frame. -/
def classify (cfg : Config) : Frame → Instr
  | .ctrl .ack => .linkAck
  | .ctrl (.nak r) => .linkNak r
  | .full t1 t2 body =>
    match Machine.categoryOf t1 t2 with
    | some .basic => classifyBasic cfg body
    | some .dataLink => classifyDataLink cfg body
    | some .intermediate => classifyIntermediate cfg body
    | none => .unknownCategory t1 t2 body

/-- The decoder: the received unit that a byte sequence is. -/
def decode (cfg : Config) (bytes : List Byte) : Except DecodeError Instr :=
  (decodeFrame cfg bytes).map (classify cfg)

/-! ### Encoder -/

/-- The frame value of a received unit (the inverse of `classify` on well-formed units) or of an emitted template (R73);
`none` for a port operation, which has no bit pattern (R71), and for a UTC-time response too long to encode (R93). -/
def frameOf (cfg : Config) : Instr → Option Frame
  | .linkAck => some (.ctrl .ack)
  | .linkNak r => some (.ctrl (.nak r))
  | .basicAppAck op args => some (.full Machine.catT1 (Machine.catT2 .basic) (op :: args))
  | .basicAppNak op args => some (.full Machine.catT1 (Machine.catT2 .basic) (op :: args))
  | .basicOperStateResp op args => some (.full Machine.catT1 (Machine.catT2 .basic) (op :: args))
  | .basicPureackExtra op args => some (.full Machine.catT1 (Machine.catT2 .basic) (op :: args))
  | .basicCustomerOverride op args => some (.full Machine.catT1 (Machine.catT2 .basic) (op :: args))
  | .basicResponseExtra op args => some (.full Machine.catT1 (Machine.catT2 .basic) (op :: args))
  | .basicUnknown body => some (.full Machine.catT1 (Machine.catT2 .basic) body)
  | .dlMaxPayloadReq op args => some (.full Machine.catT1 (Machine.catT2 .dataLink) (op :: args))
  | .dlMaxPayloadResp op args => some (.full Machine.catT1 (Machine.catT2 .dataLink) (op :: args))
  | .dlAckExtra op args => some (.full Machine.catT1 (Machine.catT2 .dataLink) (op :: args))
  | .dlUnknown body => some (.full Machine.catT1 (Machine.catT2 .dataLink) body)
  | .intGetUtcReq op1 op2 => some (.full Machine.catT1 (Machine.catT2 .intermediate) [op1, op2])
  | .intGetUtcReqBadlen op1 op2 payload =>
    some (.full Machine.catT1 (Machine.catT2 .intermediate) (op1 :: op2 :: payload))
  | .intUtcResp op1 op2 payload => some (.full Machine.catT1 (Machine.catT2 .intermediate) (op1 :: op2 :: payload))
  | .intAckExtra op1 op2 payload => some (.full Machine.catT1 (Machine.catT2 .intermediate) (op1 :: op2 :: payload))
  | .intUnknown body => some (.full Machine.catT1 (Machine.catT2 .intermediate) body)
  | .unknownCategory t1 t2 body => some (.full t1 t2 body)
  | .checksum _ => none
  | .ckInit => none
  | .ckByte _ _ _ => none
  | .ckFinal _ _ => none
  | .encLinkAck => none
  | .encLinkNak _ => none
  | .encFull _ _ _ => none
  | .decCtrl _ _ => none
  | .decFull _ => none
  | .ingest _ => none
  | .asmOverflow _ => none
  | .asmAppend _ => none
  | .asmCtrlAck => none
  | .asmCtrlNak => none
  | .asmWaitShort => none
  | .asmResyncLen => none
  | .asmWaitBody => none
  | .asmResyncCk => none
  | .asmEmitFull => none
  | .bufferReset => none
  | .dispatch _ => none
  | .rxNotify _ => none
  | .workerLoop => none
  | .txEnqueue _ => none
  | .txLinkAck => some (.ctrl .ack)
  | .txLinkNak r => some (.ctrl (.nak r))
  | .txBasicAppAck echo => some (.full Machine.catT1 (Machine.catT2 .basic) (Machine.appAckBody cfg echo))
  | .txDlMaxPayloadResp => some (.full Machine.catT1 (Machine.catT2 .dataLink) (Machine.maxPayloadBody cfg))
  | .txIntUtcResp =>
    if cfg.utcN + 2 ≤ maxBody then some (.full Machine.catT1 (Machine.catT2 .intermediate) (Machine.utcBody cfg)) else none

/-- The bytes of a frame value on the wire (R61, R62). -/
def encodeFrame (cfg : Config) : Frame → List Byte
  | .ctrl .ack => Machine.encodeLinkAck cfg
  | .ctrl (.nak r) => Machine.encodeLinkNak cfg r
  | .full t1 t2 body => Machine.encodeFull t1 t2 body

/-- The encoder: the bytes of a received unit (R61, R62) or of an emitted template (R73). -/
def encode (cfg : Config) (i : Instr) : Option (List Byte) := (frameOf cfg i).map (encodeFrame cfg)

/-! ### The opcode table's words -/

/-- The bytes of a table word of `nbits` bits. The table writes a unit as ONE number whose most significant byte is the
first byte on the wire: `type1` is [15:8] of a control row and [47:40] of a full-frame row (R61; log 20). -/
def tableBytes (nbits w : Nat) : List Byte :=
  (List.range (nbits / 8)).map fun k => BitVec.ofNat 8 (w / 256 ^ (nbits / 8 - 1 - k))

/-- The unit a table word stands for. The word's bytes, then zeros for the bytes of the body the word does not reach; the
checksum of a full frame is no operand but the checksum of those bytes (R84), so it is stamped where the word does not
reach it (log 20). -/
def tableUnitBytes (cfg : Config) (nbits w : Nat) : List Byte :=
  let bytes := tableBytes nbits w
  match Machine.frontCtrl cfg bytes with
  | some _ => bytes
  | none =>
    let covered := Machine.declaredLength bytes + 4
    if bytes.length < 4 ∨ covered < bytes.length then bytes
    else Machine.stamp (bytes ++ List.replicate (covered - bytes.length) 0)

/-- The instruction the decoder reads from a table word, under the configuration of the reset state. -/
def decodeTableWord (nbits w : Nat) : Option Instr :=
  match decode Machine.refConfig (tableUnitBytes Machine.refConfig nbits w) with
  | .ok i => some i
  | .error _ => none

end Sys2Proof
end

