-- ==== Sys2Proof/Machine/State.lean ====
section
/-! DEFINITION. The state of one context (spec/10_state.md, spec/44_transport_boundary.md), the reasons a step can stop,
and the state after reset (R35, R185). Plain data only. -/

namespace Sys2Proof.Machine

/-- Faults: accesses to buffer offsets that do not exist. No step of the machine reaches one (log 14). -/
inductive Fault where
  /-- Raised by ASM.APPEND when the chunk does not fit: `Append` is allowed only when `fill + len(s) <= C` (R14, R104).
  Safe: the machine stops where the spec gives no effect. -/
  | appendBeyondCapacity
  /-- Raised by ASM.OVERFLOW given more than `C` bytes: the discard would exceed `fill` (R14, R102, R103).
  Safe: the machine stops where the spec gives no effect. -/
  | discardBeyondFill
  deriving DecidableEq, Repr

/-- Refusals. -/
inductive Refusal where
  /-- Raised by an arm of `exec` whose instruction has no meaning yet. Safe. No arm raises it. -/
  | notModelled (mnemonic : String)
  /-- Raised by an operation that reads the configuration, and by every step, when the configuration breaks a constraint
  of R11: "a model refuses a configuration that breaks one". Safe (log 4). -/
  | badConfiguration
  /-- Raised by INGEST and BUFFER_RESET inside a running `ingest` and by WORKER.LOOP when the worker is inside an
  operation: "a model gives it no step" (R190, U14). Safe (log 15). -/
  | concurrentOperation
  /-- Raised by a step whose next input calls an instruction that is no port of R8. Safe (log 17). -/
  | notAPort
  /-- Raised by ENC.FULL: "A body longer than 65535 bytes cannot be encoded" (R93). Safe (log 18). -/
  | bodyTooLong
  deriving DecidableEq, Repr

/-- The AssemblyBuffer's contents: the bytes in arrival order, the oldest at offset 0 (R20, R45; log 5). -/
abbrev Memory := List Byte

/-- The capacity bound of R20. -/
def Memory.wf (cap : Nat) (m : Memory) : Bool := decide (m.length ≤ cap)

/-- The byte at an offset from the front; nothing at `fill` and beyond (R20, R45). -/
def Memory.read (m : Memory) (offset : Nat) : Option Byte := m[offset]?

/-- Where the worker stands in `WORKER.LOOP` and in `ingest` (R101, R103, R153; log 12). The bytes are those of the
running `ingest` that are not in the buffer yet. -/
inductive Phase where
  /-- At the top of its loop, about to wait (R35). -/
  | top
  /-- Blocked on the wake signal with an empty inbound queue (R180). -/
  | waiting
  /-- Before ASM.OVERFLOW of the next piece of `rest`. -/
  | overflow (rest : List Byte)
  /-- Before ASM.APPEND of `piece`; `rest` follows it. -/
  | append (piece rest : List Byte)
  /-- In the Assembler loop; `rest` has still to be taken in. -/
  | loop (rest : List Byte)
  deriving DecidableEq, Repr

/-- The value a port operation answers (S7; R26). -/
inductive Value where
  /-- Nothing has been returned yet. -/
  | none
  /-- The accumulators, from CK.INIT and CK.BYTE (R81, R82). -/
  | acc (c1 c2 : Byte)
  /-- A checksum, from CHECKSUM and CK.FINAL (R80, R83). -/
  | word (w : Word16)
  /-- Encoded bytes (R91 to R93). -/
  | bytes (l : List Byte)
  /-- DEC.CTRL's answer, `none` for `NoMatch` (R94). -/
  | ctrl (c : Option Ctrl)
  /-- DEC.FULL's answer (R95). -/
  | full (r : FullResult)
  /-- TX.ENQUEUE's answer (R154). -/
  | tx (r : TxResult)
  deriving DecidableEq, Repr

/-- One thing the environment does (R9, R150, R169; log 7). -/
inductive Input where
  /-- The worker's turn. -/
  | work
  /-- A port is called: RX.NOTIFY by the producer, BUFFER_RESET by the external collaborator, the other ports of R8 by
  the owner of the context. -/
  | call (i : Instr)
  /-- The producer removes up to `n` bytes from the outbound queue and feeds the wire (R157). -/
  | sent (n : Nat)
  /-- The transport comes up or goes down (R154). -/
  | transport (ready : Bool)
  /-- The adapter chooses how many bytes it hands over at the next drain (U19). -/
  | grain (n : Nat)
  deriving DecidableEq, Repr

/-- The whole state of one context with its Transport Adapter. -/
structure State where
  /-- The configuration, constant (S4, S5; R28). -/
  cfg : Config
  /-- The AssemblyBuffer (S1, S2; R20). -/
  buf : Memory
  /-- Events of `ingest` that are not consumed yet (S7; R100). -/
  events : List Event
  /-- Outbound frames of `dispatch` that are not handed over yet (S7; R120). -/
  replies : List (List Byte)
  /-- The last returned value (S7). -/
  result : Value
  /-- The worker's position (R153). -/
  phase : Phase
  /-- The inbound queue (S6; R151). -/
  inbound : List Byte
  /-- The outbound queue (S6; R154). -/
  outbound : List Byte
  /-- The binary wake signal (S6; R152). -/
  wake : Bool
  /-- The transport is ready to accept frames (R154). -/
  ready : Bool
  /-- Transmission has been enabled (R154). -/
  txEnabled : Bool
  /-- The bytes the producer has put on the wire (R34, R157). -/
  wire : List Byte
  /-- The ghost counter of R15: stream bytes that have left the front of the buffer. -/
  pos : Nat
  /-- MODEL's own: what the environment does next; with nothing listed the worker moves (log 7). -/
  inputs : List Input
  /-- MODEL's own: the adapter's drain size (U19; log 9). -/
  grain : Nat
  /-- MODEL's own: counter of the free value `Config.keepOnFull` (log 8). -/
  draws : Nat
  deriving DecidableEq, Repr

/-- `fill = len(buf)` (R20). -/
def State.fill (s : State) : Nat := s.buf.length

/-- A freshly created context with a given configuration (R35, R185). -/
def State.fresh (cfg : Config) : State where
  cfg := cfg
  buf := []
  events := []
  replies := []
  result := .none
  phase := .top
  inbound := []
  outbound := []
  wake := false
  ready := true
  txEnabled := false
  wire := []
  pos := 0
  inputs := []
  grain := 0
  draws := 0

/-- The machine right after reset: R35, with the reference configuration REF (R12; log 1, 2, 6). -/
def State.reset : State := State.fresh refConfig

end Sys2Proof.Machine
end

