-- ==== Sys2Proof/Machine/Flags.lean ====
section
/-! DEFINITION. The block has no status flags (spec/10_state.md R26): what a processor would report through flags it
reports through values. This file computes those values: the number of bytes an overflow discards, the Assembler step that
the front of the buffer selects, and the answer of TX.ENQUEUE. -/

namespace Sys2Proof.Machine

/-- The number of oldest bytes that must go to make room for `n` more, 0 when they fit (R102): never more than
necessary. -/
def lossCount (cap fill n : Nat) : Nat := fill + n - cap

/-- The step that ends one iteration of the Assembler loop (R101). -/
inductive AsmStep where
  | ctrlAck
  | ctrlNak (reason : NakReason)
  | waitShort
  | resyncLen
  | waitBody
  | resyncCk
  | emitFull
  deriving DecidableEq, Repr

/-- Steps 1 to 5 of the loop, tried in that order (R101, R105 to R111, R170). `L + 6` is formed over the naturals (R64);
the second length test is kept although R11 makes it redundant (D24). -/
def asmSelect (cfg : Config) (buf : Memory) : AsmStep :=
  match frontCtrl cfg buf with
  | some .ack => .ctrlAck
  | some (.nak r) => .ctrlNak r
  | none =>
    if buf.length < 6 then .waitShort
    else
      let L := declaredLength buf
      if cfg.lmax < L ∨ cfg.cap < L + 6 then .resyncLen
      else if buf.length < L + 6 then .waitBody
      else if checksum (coveredBytes buf L) ≠ storedChecksum buf L then .resyncCk
      else .emitFull

/-- The two steps that stop the loop (R107, R109). -/
def AsmStep.stops : AsmStep → Bool
  | .waitShort => true
  | .waitBody => true
  | .ctrlAck => false
  | .ctrlNak _ => false
  | .resyncLen => false
  | .resyncCk => false
  | .emitFull => false

/-- The loop stops at once: the fixed point of R113. -/
def loopFixed (cfg : Config) (buf : Memory) : Bool := (asmSelect cfg buf).stops

/-- The answer of TX.ENQUEUE (R154): all or nothing. -/
def txAnswer (qoutCap : Nat) (ready : Bool) (outbound bytes : List Byte) : TxResult :=
  if ready = false then .notReady
  else if qoutCap - outbound.length < bytes.length then .resourceExhausted
  else .ok

end Sys2Proof.Machine
end

