-- ==== Sys2Proof/Machine/Ops.lean ====
section
/-! DEFINITION. The named operations over the state that the meanings are written with: the primitives of
spec/00_scope.md R14, the recovery of an error (what stands for taking an exception, spec/60_exceptions.md R171), the
queues and the signal of the Transport Adapter. -/

namespace Sys2Proof.Machine

/-! ### The AssemblyBuffer (R14, R23) -/

/-- `DropFront(n)` for `n ≤ fill`: the frame cursor advances by `n` (R14, R24). -/
def State.dropFront (s : State) (n : Nat) : State :=
  { s with buf := s.buf.drop n, pos := s.pos + n }

/-- `Append(s)`: the only way bytes enter the buffer (R14, R104). -/
def State.append (s : State) (chunk : List Byte) : State :=
  { s with buf := s.buf ++ chunk }

/-- `buf <- []` (R117): the cursor advances by `fill` (R24). -/
def State.clearBuffer (s : State) : State :=
  { s with buf := [], pos := s.pos + s.buf.length }

/-! ### Outputs -/

/-- `emit e`: an event at the end of the output sequence (R14, D22). -/
def State.emit (s : State) (e : Event) : State :=
  { s with events := s.events ++ [e] }

/-- Outbound frames at the end of the sequence `dispatch` returns (R120). -/
def State.reply (s : State) (frames : List (List Byte)) : State :=
  { s with replies := s.replies ++ frames }

/-- The operation answers `v`. -/
def State.answer (s : State) (v : Value) : State :=
  { s with result := v }

/-- TAKING AN EXCEPTION, the one operation of every recovered error: the event is reported, the `n` front bytes go, and
nothing is saved, masked or transferred (R165, R171). There is no return from it: control goes on with the next statement
(R172). -/
def State.recover (s : State) (e : Event) (n : Nat) : State :=
  (s.emit e).dropFront n

/-- A frame is found: it is emitted and exactly its bytes go (R105, R106, R111). -/
def State.accept (s : State) (fr : Frame) (n : Nat) : State :=
  (s.emit (.frame fr)).dropFront n

/-! ### The worker's position -/

/-- An `ingest` is running (R46). -/
def State.inIngest (s : State) : Bool :=
  match s.phase with
  | .top => false
  | .waiting => false
  | .overflow _ => true
  | .append _ _ => true
  | .loop _ => true

/-- The worker is inside an operation or has outputs to hand over (R49, R190). -/
def State.busy (s : State) : Bool :=
  s.inIngest || !s.events.isEmpty || !s.replies.isEmpty

/-- `stop`: the end of the Assembler loop; `ingest` goes on with the next piece of its chunk or returns (R14, R103). -/
def State.stopLoop (s : State) : State :=
  match s.phase with
  | .loop [] => { s with phase := .top }
  | .loop rest => { s with phase := .overflow rest }
  | .top => s
  | .waiting => s
  | .overflow _ => s
  | .append _ _ => s

/-! ### The Transport Adapter (R150) -/

/-- The bytes of a list that a mask keeps, from index `i` on. -/
def keepFrom (keep : Nat → Bool) : Nat → List Byte → List Byte
  | _, [] => []
  | i, b :: bs => if keep i then b :: keepFrom keep (i + 1) bs else keepFrom keep (i + 1) bs

/-- The producer appends arrived bytes and raises the signal (R151, R152). When they do not fit, the producer drops bytes:
which ones survive is a free value, of at most `QIN_CAP` bytes and never reordered or invented (R48, U9; log 8). -/
def State.arrive (s : State) (chunk : List Byte) : State :=
  if s.inbound.length + chunk.length ≤ s.cfg.qinCap then
    { s with inbound := s.inbound ++ chunk, wake := true }
  else
    { s with
      inbound := (keepFrom (Config.keepOnFull s.draws) 0 (s.inbound ++ chunk)).take s.cfg.qinCap
      wake := true
      draws := s.draws + 1 }

/-- TX.ENQUEUE's effect: the frame is queued whole or not at all (R154, R155, D19). -/
def State.enqueue (s : State) (bytes : List Byte) : State :=
  match txAnswer s.cfg.qoutCap s.ready s.outbound bytes with
  | .ok => { s with outbound := s.outbound ++ bytes, txEnabled := true, result := .tx .ok }
  | .resourceExhausted => { s with result := .tx .resourceExhausted }
  | .notReady => { s with result := .tx .notReady }

/-- The producer feeds up to `n` outbound bytes to the wire, in queue order, once transmission has been enabled
(R9, R154, R157; log 25). -/
def State.feedWire (s : State) (n : Nat) : State :=
  if s.txEnabled then { s with outbound := s.outbound.drop n, wire := s.wire ++ s.outbound.take n } else s

/-- How many bytes of a queue of `len` bytes the adapter hands over: its choice where that is 1 to `len`, else the whole
queue (R153, U19; log 9). -/
def drainSize (grain len : Nat) : Nat := if 1 ≤ grain ∧ grain ≤ len then grain else len

/-- The chunk the worker takes from the inbound queue (R153). -/
def State.drained (s : State) : List Byte := s.inbound.take (drainSize s.grain s.inbound.length)

/-- The chunk leaves the inbound queue. -/
def State.takeDrained (s : State) : State :=
  { s with inbound := s.inbound.drop (drainSize s.grain s.inbound.length) }

/-! ### Outcomes -/

/-- An operation that reads the configuration runs under one that meets R11 and is refused under any other: "a model refuses a
configuration that breaks one" (R11; U13, D2; log 4). -/
def State.configured (s : State) (out : Host.Outcome State Fault Refusal) : Host.Outcome State Fault Refusal :=
  if configOk s.cfg then out else .refused .badConfiguration

end Sys2Proof.Machine
end

