-- ==== Sys2Proof/Machine/Checksum.lean ====
section
/-! DEFINITION. The meanings of the Checksum Engine's rows (spec/40_checksum.md). They write no state besides the returned
value (R80). -/

namespace Sys2Proof.Machine

/-- CHECKSUM (R80). -/
def execChecksum (bytes : List Byte) (s : State) : Host.Outcome State Fault Refusal :=
  .next (s.answer (.word (checksum bytes)))

/-- CK.INIT (R81). -/
def execCkInit (s : State) : Host.Outcome State Fault Refusal :=
  .next (s.answer (.acc ckSeed.c1 ckSeed.c2))

/-- CK.BYTE (R82). -/
def execCkByte (c1 c2 b : Byte) (s : State) : Host.Outcome State Fault Refusal :=
  let a := ckAccumulate ⟨c1, c2⟩ b
  .next (s.answer (.acc a.c1 a.c2))

/-- CK.FINAL (R83). -/
def execCkFinal (c1 c2 : Byte) (s : State) : Host.Outcome State Fault Refusal :=
  .next (s.answer (.word (ckFinish ⟨c1, c2⟩)))

end Sys2Proof.Machine
end

