-- ==== Sys2Proof/Machine/Assembler.lean ====
section
/-! DEFINITION. The meanings of the Frame Assembler's rows (spec/42_assembler.md): `ingest`, its steps and
`buffer_reset`. -/

namespace Sys2Proof.Machine

/-! ### The effect of each step -/

/-- R102: when the chunk does not fit, the `d` oldest bytes go and `Loss(d)` is reported. -/
def State.makeRoom (s : State) (n : Nat) : State :=
  if s.cfg.cap < s.buf.length + n then
    s.recover (.loss (lossCount s.cfg.cap s.buf.length n)) (lossCount s.cfg.cap s.buf.length n)
  else s

/-- R105. -/
def State.fireCtrlAck (s : State) : State := s.accept (.ctrl .ack) 2

/-- R106. -/
def State.fireCtrlNak (s : State) (r : NakReason) : State := s.accept (.ctrl (.nak r)) 2

/-- R108. -/
def State.fireResyncLen (s : State) : State := s.recover (.resync .length) 1

/-- R110. -/
def State.fireResyncCk (s : State) : State := s.recover (.resync .checksum) 1

/-- The full frame of the candidate at the front (R111). -/
def candidateFrame (buf : Memory) : Frame :=
  .full (byteAt buf 0) (byteAt buf 1) (bodyBytes buf (declaredLength buf))

/-- R111. -/
def State.fireEmitFull (s : State) : State := s.accept (candidateFrame s.buf) (declaredLength s.buf + 6)

/-- The effect of one iteration on the buffer and the events; the waiting steps have none (R105 to R111). -/
def State.fire (s : State) : AsmStep → State
  | .ctrlAck => s.fireCtrlAck
  | .ctrlNak r => s.fireCtrlNak r
  | .waitShort => s
  | .resyncLen => s.fireResyncLen
  | .waitBody => s
  | .resyncCk => s.fireResyncCk
  | .emitFull => s.fireEmitFull

/-! ### The whole operation -/

/-- The Assembler loop, with a bound on its iterations; `fill + 1` of them are always enough (R101, R112). -/
def asmLoop : Nat → State → State
  | 0, s => s
  | n + 1, s => if (asmSelect s.cfg s.buf).stops then s else asmLoop n (s.fire (asmSelect s.cfg s.buf))

/-- One piece of at most `C` bytes: overflow check, append, loop (R101, R102, R104). -/
def State.ingestPiece (s : State) (piece : List Byte) : State :=
  let t := (s.makeRoom piece.length).append piece
  asmLoop (t.buf.length + 1) t

/-- A chunk as consecutive pieces of `C` bytes, the last one shorter (R103); one unit of the bound for each piece. -/
def ingestPieces : Nat → List Byte → State → State
  | 0, chunk, s => s.ingestPiece chunk
  | n + 1, chunk, s =>
    if chunk.length ≤ s.cfg.cap then s.ingestPiece chunk
    else ingestPieces n (chunk.drop s.cfg.cap) (s.ingestPiece (chunk.take s.cfg.cap))

/-- `ingest(chunk)` (R101). -/
def State.ingestChunk (s : State) (chunk : List Byte) : State := ingestPieces chunk.length chunk s

/-! ### The meanings -/

/-- INGEST (R101), not inside a running `ingest` (R46, R190). -/
def execIngest (chunk : List Byte) (s : State) : Host.Outcome State Fault Refusal :=
  s.configured (if s.inIngest then .refused .concurrentOperation else .next (s.ingestChunk chunk))

/-- ASM.OVERFLOW (R102); its operand has at most `C` bytes, more would discard beyond `fill` (log 14). -/
def execAsmOverflow (chunk : List Byte) (s : State) : Host.Outcome State Fault Refusal :=
  s.configured (if chunk.length ≤ s.cfg.cap then .next (s.makeRoom chunk.length) else .fault .discardBeyondFill)

/-- ASM.APPEND (R104); its operand fits, which R102 has seen to (log 14). -/
def execAsmAppend (chunk : List Byte) (s : State) : Host.Outcome State Fault Refusal :=
  s.configured
    (if s.buf.length + chunk.length ≤ s.cfg.cap then .next (s.append chunk) else .fault .appendBeyondCapacity)

/-- ASM.CTRL_ACK (R105). A step whose condition does not hold does not fire (log 13). -/
def execAsmCtrlAck (s : State) : Host.Outcome State Fault Refusal :=
  s.configured (.next (if asmSelect s.cfg s.buf = .ctrlAck then s.fireCtrlAck else s))

/-- ASM.CTRL_NAK (R106). -/
def execAsmCtrlNak (s : State) : Host.Outcome State Fault Refusal :=
  s.configured (.next (match asmSelect s.cfg s.buf with
    | .ctrlNak r => s.fireCtrlNak r
    | .ctrlAck => s
    | .waitShort => s
    | .resyncLen => s
    | .waitBody => s
    | .resyncCk => s
    | .emitFull => s))

/-- ASM.WAIT_SHORT (R107): the loop stops, the buffer keeps its bytes. -/
def execAsmWaitShort (s : State) : Host.Outcome State Fault Refusal :=
  s.configured (.next (if asmSelect s.cfg s.buf = .waitShort then s.stopLoop else s))

/-- ASM.RESYNC_LEN (R108). -/
def execAsmResyncLen (s : State) : Host.Outcome State Fault Refusal :=
  s.configured (.next (if asmSelect s.cfg s.buf = .resyncLen then s.fireResyncLen else s))

/-- ASM.WAIT_BODY (R109): the loop stops, the buffer keeps its bytes. -/
def execAsmWaitBody (s : State) : Host.Outcome State Fault Refusal :=
  s.configured (.next (if asmSelect s.cfg s.buf = .waitBody then s.stopLoop else s))

/-- ASM.RESYNC_CK (R110). -/
def execAsmResyncCk (s : State) : Host.Outcome State Fault Refusal :=
  s.configured (.next (if asmSelect s.cfg s.buf = .resyncCk then s.fireResyncCk else s))

/-- ASM.EMIT_FULL (R111). -/
def execAsmEmitFull (s : State) : Host.Outcome State Fault Refusal :=
  s.configured (.next (if asmSelect s.cfg s.buf = .emitFull then s.fireEmitFull else s))

/-- BUFFER_RESET (R117), between two `ingest` calls and never inside one (R46, D20). It reports nothing and touches no
queue (D10). -/
def execBufferReset (s : State) : Host.Outcome State Fault Refusal :=
  if s.inIngest then .refused .concurrentOperation else .next s.clearBuffer

end Sys2Proof.Machine
end

