-- ==== Sys2Proof/Machine/Dispatcher.lean ====
section
/-! DEFINITION. The Message Dispatcher (spec/43_dispatcher.md): `dispatch` by category and class (R122), and one meaning
for each received row (R125 to R146), each stated by its own rule. A received unit's meaning appends the outbound frames
its rule gives to the sequence `dispatch` returns; nothing else changes (R120, R123). -/

namespace Sys2Proof.Machine

/-! ### The answers -/

/-- A link-layer ACK alone. -/
def ackOnly (cfg : Config) : List (List Byte) := [encodeLinkAck cfg]

/-- A link-layer ACK followed by a data reply, in that order (R129, R132, R136). -/
def ackThen (cfg : Config) (frame : List Byte) : List (List Byte) := [encodeLinkAck cfg, frame]

/-- A single NAK. -/
def nakOnly (cfg : Config) (r : NakReason) : List (List Byte) := [encodeLinkNak cfg r]

/-! ### DISPATCH (R122) -/

/-- The Basic cases of R122; `opcode1` is present wherever a class is found. -/
def dispatchBasic (cfg : Config) (body : List Byte) : List (List Byte) :=
  match body with
  | [] => nakOnly cfg .unsupportedMessageType
  | op :: _ =>
    match (basicOp cfg op).map basicClass with
    | some .pureAck => ackOnly cfg
    | some .response => ackOnly cfg
    | some .customerOverride => ackThen cfg (appAckFrame cfg op)
    | some .maxPayloadReq => nakOnly cfg .unsupportedMessageType
    | some .maxPayloadResp => nakOnly cfg .unsupportedMessageType
    | some .getUtcReq => nakOnly cfg .unsupportedMessageType
    | none => nakOnly cfg .unsupportedMessageType

/-- The DataLink cases of R122. -/
def dispatchDataLink (cfg : Config) (body : List Byte) : List (List Byte) :=
  match (lookupDataLink cfg body).map dataLinkClass with
  | some .maxPayloadReq => ackThen cfg (maxPayloadFrame cfg)
  | some .maxPayloadResp => ackOnly cfg
  | some .pureAck => ackOnly cfg
  | some .response => ackOnly cfg
  | some .customerOverride => nakOnly cfg .requestNotSupported
  | some .getUtcReq => nakOnly cfg .requestNotSupported
  | none => nakOnly cfg .requestNotSupported

/-- The Intermediate cases of R122. -/
def dispatchIntermediate (cfg : Config) (body : List Byte) : List (List Byte) :=
  match (lookupIntermediate cfg body).map intermediateClass with
  | some .getUtcReq => if body.length = 2 then ackThen cfg (utcFrame cfg) else nakOnly cfg .requestNotSupported
  | some .pureAck => ackOnly cfg
  | some .response => ackOnly cfg
  | some .customerOverride => nakOnly cfg .requestNotSupported
  | some .maxPayloadReq => nakOnly cfg .requestNotSupported
  | some .maxPayloadResp => nakOnly cfg .requestNotSupported
  | none => nakOnly cfg .requestNotSupported

/-- `dispatch(fr)`, a pure function of the frame and the configuration (R31, R120, R122). The classes R69 forbids in a
category never come out of its table; their lines answer as `NotInTable` does. -/
def dispatchFrame (cfg : Config) : Frame → List (List Byte)
  | .ctrl _ => []
  | .full t1 t2 body =>
    match categoryOf t1 t2 with
    | some .basic => dispatchBasic cfg body
    | some .dataLink => dispatchDataLink cfg body
    | some .intermediate => dispatchIntermediate cfg body
    | none => nakOnly cfg .requestNotSupported

/-- DISPATCH (R120, R122). -/
def execDispatch (fr : Frame) (s : State) : Host.Outcome State Fault Refusal :=
  s.configured (.next (s.reply (dispatchFrame s.cfg fr)))

/-! ### Received units -/

/-- LINK_ACK: no outbound frame (R146, D15). -/
def execLinkAck (s : State) : Host.Outcome State Fault Refusal :=
  s.configured (.next (s.reply []))

/-- LINK_NAK: no outbound frame, whatever the reason (R146, R168). -/
def execLinkNak (_reason : NakReason) (s : State) : Host.Outcome State Fault Refusal :=
  s.configured (.next (s.reply []))

/-- BASIC.APP_ACK (R125). -/
def execBasicAppAck (_op : Byte) (_args : List Byte) (s : State) : Host.Outcome State Fault Refusal :=
  s.configured (.next (s.reply (ackOnly s.cfg)))

/-- BASIC.APP_NAK (R126). -/
def execBasicAppNak (_op : Byte) (_args : List Byte) (s : State) : Host.Outcome State Fault Refusal :=
  s.configured (.next (s.reply (ackOnly s.cfg)))

/-- BASIC.OPER_STATE_RESP (R127). -/
def execBasicOperStateResp (_op : Byte) (_args : List Byte) (s : State) : Host.Outcome State Fault Refusal :=
  s.configured (.next (s.reply (ackOnly s.cfg)))

/-- BASIC.PUREACK_EXTRA (R128). -/
def execBasicPureackExtra (_op : Byte) (_args : List Byte) (s : State) : Host.Outcome State Fault Refusal :=
  s.configured (.next (s.reply (ackOnly s.cfg)))

/-- BASIC.CUSTOMER_OVERRIDE: ACK, then the application acknowledgement echoing the override opcode (R129, D18). -/
def execBasicCustomerOverride (op : Byte) (_args : List Byte) (s : State) : Host.Outcome State Fault Refusal :=
  s.configured (.next (s.reply (ackThen s.cfg (appAckFrame s.cfg op))))

/-- BASIC.RESPONSE_EXTRA (R130). -/
def execBasicResponseExtra (_op : Byte) (_args : List Byte) (s : State) : Host.Outcome State Fault Refusal :=
  s.configured (.next (s.reply (ackOnly s.cfg)))

/-- BASIC.UNKNOWN: a single NAK, the only one with `UnsupportedMessageType` (R131). -/
def execBasicUnknown (_body : List Byte) (s : State) : Host.Outcome State Fault Refusal :=
  s.configured (.next (s.reply (nakOnly s.cfg .unsupportedMessageType)))

/-- DL.MAX_PAYLOAD_REQ: ACK, then the max-payload response (R132). -/
def execDlMaxPayloadReq (_op : Byte) (_args : List Byte) (s : State) : Host.Outcome State Fault Refusal :=
  s.configured (.next (s.reply (ackThen s.cfg (maxPayloadFrame s.cfg))))

/-- DL.MAX_PAYLOAD_RESP (R133). -/
def execDlMaxPayloadResp (_op : Byte) (_args : List Byte) (s : State) : Host.Outcome State Fault Refusal :=
  s.configured (.next (s.reply (ackOnly s.cfg)))

/-- DL.ACK_EXTRA (R134). -/
def execDlAckExtra (_op : Byte) (_args : List Byte) (s : State) : Host.Outcome State Fault Refusal :=
  s.configured (.next (s.reply (ackOnly s.cfg)))

/-- DL.UNKNOWN (R135). -/
def execDlUnknown (_body : List Byte) (s : State) : Host.Outcome State Fault Refusal :=
  s.configured (.next (s.reply (nakOnly s.cfg .requestNotSupported)))

/-- INT.GET_UTC_REQ with `L = 2`: ACK, then the UTC-time response with zeroed time fields (R136, R137; too long a one:
log 3). -/
def execIntGetUtcReq (_op1 _op2 : Byte) (s : State) : Host.Outcome State Fault Refusal :=
  s.configured (.next (s.reply (ackThen s.cfg (utcFrame s.cfg))))

/-- INT.GET_UTC_REQ.BADLEN: a single NAK (R138). -/
def execIntGetUtcReqBadlen (_op1 _op2 : Byte) (_payload : List Byte) (s : State) :
    Host.Outcome State Fault Refusal :=
  s.configured (.next (s.reply (nakOnly s.cfg .requestNotSupported)))

/-- INT.UTC_RESP (R139). -/
def execIntUtcResp (_op1 _op2 : Byte) (_payload : List Byte) (s : State) : Host.Outcome State Fault Refusal :=
  s.configured (.next (s.reply (ackOnly s.cfg)))

/-- INT.ACK_EXTRA (R140). -/
def execIntAckExtra (_op1 _op2 : Byte) (_payload : List Byte) (s : State) : Host.Outcome State Fault Refusal :=
  s.configured (.next (s.reply (ackOnly s.cfg)))

/-- INT.UNKNOWN (R143). -/
def execIntUnknown (_body : List Byte) (s : State) : Host.Outcome State Fault Refusal :=
  s.configured (.next (s.reply (nakOnly s.cfg .requestNotSupported)))

/-- UNKNOWN_CATEGORY (R145). -/
def execUnknownCategory (_t1 _t2 : Byte) (_body : List Byte) (s : State) : Host.Outcome State Fault Refusal :=
  s.configured (.next (s.reply (nakOnly s.cfg .requestNotSupported)))

/-! ### Emitted templates (R73): the Dispatcher emits the frame (log 22) -/

/-- TX.LINK_ACK (R73, R91). -/
def execTxLinkAck (s : State) : Host.Outcome State Fault Refusal :=
  s.configured (.next (s.reply [encodeLinkAck s.cfg]))

/-- TX.LINK_NAK (R73, R92). -/
def execTxLinkNak (r : NakReason) (s : State) : Host.Outcome State Fault Refusal :=
  s.configured (.next (s.reply [encodeLinkNak s.cfg r]))

/-- TX.BASIC_APP_ACK (R73, R129). -/
def execTxBasicAppAck (echo : Byte) (s : State) : Host.Outcome State Fault Refusal :=
  s.configured (.next (s.reply [appAckFrame s.cfg echo]))

/-- TX.DL_MAX_PAYLOAD_RESP (R73, R132). -/
def execTxDlMaxPayloadResp (s : State) : Host.Outcome State Fault Refusal :=
  s.configured (.next (s.reply [maxPayloadFrame s.cfg]))

/-- TX.INT_UTC_RESP (R73, R137). -/
def execTxIntUtcResp (s : State) : Host.Outcome State Fault Refusal :=
  s.configured (.next (s.reply [utcFrame s.cfg]))

end Sys2Proof.Machine
end

