-- ==== Sys2Proof/Machine/Transport.lean ====
section
/-! DEFINITION. The boundary with the Transport Adapter (spec/44_transport_boundary.md): RX.NOTIFY, TX.ENQUEUE and the
worker loop. -/

namespace Sys2Proof.Machine

/-- RX.NOTIFY, the producer's notification (R151, R152). -/
def execRxNotify (chunk : List Byte) (s : State) : Host.Outcome State Fault Refusal :=
  s.configured (.next (s.arrive chunk))

/-- TX.ENQUEUE (R154, R155). -/
def execTxEnqueue (bytes : List Byte) (s : State) : Host.Outcome State Fault Refusal :=
  s.configured (.next (s.enqueue bytes))

/-- The top of the worker loop up to the drain: with an empty inbound queue the worker waits for the signal and clears it
(R153, R180). The second part tells whether a chunk can be taken now. -/
def State.awake (s : State) : State × Bool :=
  match s.phase with
  | .waiting =>
    if s.wake then ({ s with wake := false, phase := .top }, !s.inbound.isEmpty) else (s, false)
  | _ =>
    if s.inbound.isEmpty then
      (if s.wake then ({ s with wake := false }, false) else ({ s with phase := .waiting }, false))
    else (s, true)

/-- One event of a finished `ingest`: a frame is dispatched and each reply offered to TX.ENQUEUE in order; a report
changes nothing (R153, R156, U22). -/
def State.deliver (s : State) : Event → State
  | .frame fr => (dispatchFrame s.cfg fr).foldl State.enqueue s
  | .loss _ => s
  | .resync _ => s

/-- One pass of the body of the worker's `forever` loop with nothing in between: wait or drain, `ingest`, then every event
in order (R153). -/
def State.workerPass (s : State) : State :=
  let (t, taken) := s.awake
  if taken then
    let u := t.takeDrained.ingestChunk t.drained
    u.events.foldl State.deliver { u with events := [] }
  else t

/-- WORKER.LOOP: one pass of the loop (R153; log 26). The worker must be between operations (R190). -/
def execWorkerLoop (s : State) : Host.Outcome State Fault Refusal :=
  s.configured (if s.busy then .refused .concurrentOperation else .next s.workerPass)

end Sys2Proof.Machine
end

