-- ==== Sys2Proof/Machine/WireModel.lean ====
section
/-! DEFINITION. The meanings of the encoders and decoders (spec/41_wire_model.md). They write no state besides the returned
value. -/

namespace Sys2Proof.Machine

/-- ENC.LINK_ACK (R91). -/
def execEncLinkAck (s : State) : Host.Outcome State Fault Refusal :=
  s.configured (.next (s.answer (.bytes (encodeLinkAck s.cfg))))

/-- ENC.LINK_NAK (R92). -/
def execEncLinkNak (r : NakReason) (s : State) : Host.Outcome State Fault Refusal :=
  s.configured (.next (s.answer (.bytes (encodeLinkNak s.cfg r))))

/-- ENC.FULL; a body over 65535 bytes cannot be encoded (R93; log 18). -/
def execEncFull (t1 t2 : Byte) (body : List Byte) (s : State) : Host.Outcome State Fault Refusal :=
  if body.length ≤ maxBody then .next (s.answer (.bytes (encodeFull t1 t2 body))) else .refused .bodyTooLong

/-- DEC.CTRL (R94). -/
def execDecCtrl (b0 b1 : Byte) (s : State) : Host.Outcome State Fault Refusal :=
  s.configured (.next (s.answer (.ctrl (decodeCtrl s.cfg b0 b1))))

/-- DEC.FULL (R95). -/
def execDecFull (bytes : List Byte) (s : State) : Host.Outcome State Fault Refusal :=
  .next (s.answer (.full (decodeFull bytes)))

end Sys2Proof.Machine
end

