-- ==== Sys2Proof/Machine/Dispatch.lean ====
section
/-! DEFINITION. One arm for each instruction: a direct call of its meaning. -/

namespace Sys2Proof.Machine

def exec (i : Instr) (s : State) : Host.Outcome State Fault Refusal :=
  match i with
  -- (A) received units
  | .linkAck => Sys2Proof.Machine.execLinkAck s
  | .linkNak reason => Sys2Proof.Machine.execLinkNak reason s
  | .basicAppAck op args => Sys2Proof.Machine.execBasicAppAck op args s
  | .basicAppNak op args => Sys2Proof.Machine.execBasicAppNak op args s
  | .basicOperStateResp op args => Sys2Proof.Machine.execBasicOperStateResp op args s
  | .basicPureackExtra op args => Sys2Proof.Machine.execBasicPureackExtra op args s
  | .basicCustomerOverride op args => Sys2Proof.Machine.execBasicCustomerOverride op args s
  | .basicResponseExtra op args => Sys2Proof.Machine.execBasicResponseExtra op args s
  | .basicUnknown body => Sys2Proof.Machine.execBasicUnknown body s
  | .dlMaxPayloadReq op args => Sys2Proof.Machine.execDlMaxPayloadReq op args s
  | .dlMaxPayloadResp op args => Sys2Proof.Machine.execDlMaxPayloadResp op args s
  | .dlAckExtra op args => Sys2Proof.Machine.execDlAckExtra op args s
  | .dlUnknown body => Sys2Proof.Machine.execDlUnknown body s
  | .intGetUtcReq op1 op2 => Sys2Proof.Machine.execIntGetUtcReq op1 op2 s
  | .intGetUtcReqBadlen op1 op2 payload => Sys2Proof.Machine.execIntGetUtcReqBadlen op1 op2 payload s
  | .intUtcResp op1 op2 payload => Sys2Proof.Machine.execIntUtcResp op1 op2 payload s
  | .intAckExtra op1 op2 payload => Sys2Proof.Machine.execIntAckExtra op1 op2 payload s
  | .intUnknown body => Sys2Proof.Machine.execIntUnknown body s
  | .unknownCategory type1 type2 body => Sys2Proof.Machine.execUnknownCategory type1 type2 body s
  -- (B) port operations and their steps
  | .checksum bytes => Sys2Proof.Machine.execChecksum bytes s
  | .ckInit => Sys2Proof.Machine.execCkInit s
  | .ckByte c1 c2 b => Sys2Proof.Machine.execCkByte c1 c2 b s
  | .ckFinal c1 c2 => Sys2Proof.Machine.execCkFinal c1 c2 s
  | .encLinkAck => Sys2Proof.Machine.execEncLinkAck s
  | .encLinkNak reason => Sys2Proof.Machine.execEncLinkNak reason s
  | .encFull type1 type2 body => Sys2Proof.Machine.execEncFull type1 type2 body s
  | .decCtrl b0 b1 => Sys2Proof.Machine.execDecCtrl b0 b1 s
  | .decFull bytes => Sys2Proof.Machine.execDecFull bytes s
  | .ingest chunk => Sys2Proof.Machine.execIngest chunk s
  | .asmOverflow chunk => Sys2Proof.Machine.execAsmOverflow chunk s
  | .asmAppend chunk => Sys2Proof.Machine.execAsmAppend chunk s
  | .asmCtrlAck => Sys2Proof.Machine.execAsmCtrlAck s
  | .asmCtrlNak => Sys2Proof.Machine.execAsmCtrlNak s
  | .asmWaitShort => Sys2Proof.Machine.execAsmWaitShort s
  | .asmResyncLen => Sys2Proof.Machine.execAsmResyncLen s
  | .asmWaitBody => Sys2Proof.Machine.execAsmWaitBody s
  | .asmResyncCk => Sys2Proof.Machine.execAsmResyncCk s
  | .asmEmitFull => Sys2Proof.Machine.execAsmEmitFull s
  | .bufferReset => Sys2Proof.Machine.execBufferReset s
  | .dispatch fr => Sys2Proof.Machine.execDispatch fr s
  | .rxNotify chunk => Sys2Proof.Machine.execRxNotify chunk s
  | .workerLoop => Sys2Proof.Machine.execWorkerLoop s
  | .txEnqueue bytes => Sys2Proof.Machine.execTxEnqueue bytes s
  -- (C) emitted templates
  | .txLinkAck => Sys2Proof.Machine.execTxLinkAck s
  | .txLinkNak reason => Sys2Proof.Machine.execTxLinkNak reason s
  | .txBasicAppAck echo => Sys2Proof.Machine.execTxBasicAppAck echo s
  | .txDlMaxPayloadResp => Sys2Proof.Machine.execTxDlMaxPayloadResp s
  | .txIntUtcResp => Sys2Proof.Machine.execTxIntUtcResp s

end Sys2Proof.Machine
end

