-- ==== Sys2Proof/Machine/Fetch.lean ====
section
/-! DEFINITION. Which instruction the machine runs next, and in which state: the environment's next input or, with none
listed, the worker's next small step (spec/00_scope.md R8, R9; spec/42_assembler.md R101; spec/44_transport_boundary.md
R153). -/

namespace Sys2Proof.Machine

/-- What the next step does. -/
inductive Action where
  /-- Run an instruction in a state that has moved on (the piece, event or reply it is about has been taken). -/
  | run (i : Instr) (s : State)
  /-- Move without an instruction: the environment's part, or the worker's wait and drain. -/
  | move (s : State)
  /-- Nothing the spec gives. -/
  | refuse (r : Refusal)

/-- The instruction of a loop step (R101). -/
def asmInstr : AsmStep → Instr
  | .ctrlAck => .asmCtrlAck
  | .ctrlNak _ => .asmCtrlNak
  | .waitShort => .asmWaitShort
  | .resyncLen => .asmResyncLen
  | .waitBody => .asmWaitBody
  | .resyncCk => .asmResyncCk
  | .emitFull => .asmEmitFull

/-- The worker at the top of its loop, or waiting, with nothing to hand over: it waits for the signal while the inbound
queue is empty, clears the signal when woken, and otherwise drains a chunk and starts `ingest` (R153, R180; log 12). -/
def State.idleTurn (s : State) : State :=
  match s.phase with
  | .waiting => if s.wake then { s with wake := false, phase := .top } else s
  | .top =>
    if s.inbound.isEmpty then { s with phase := .waiting }
    else { s.takeDrained with phase := .overflow s.drained }
  | .overflow _ => s
  | .append _ _ => s
  | .loop _ => s

/-- The worker outside `ingest`: replies are handed over before the next event is looked at, events before the next
drain (R49, R153). A received frame is FETCHED here: the instruction is the row the decoder gives it. -/
def State.outputTurn (s : State) : Action :=
  match s.replies with
  | bytes :: rest => .run (.txEnqueue bytes) { s with replies := rest }
  | [] =>
    match s.events with
    | .frame fr :: rest => .run (classify s.cfg fr) { s with events := rest }
    | .loss _ :: rest => .move { s with events := rest }
    | .resync _ :: rest => .move { s with events := rest }
    | [] => .move s.idleTurn

/-- The worker's next small step (R8): inside `ingest` the piece to take in or the loop step that the front of the buffer
selects (R101, R103), else its outputs, else its loop. -/
def State.workerTurn (s : State) : Action :=
  match s.phase with
  | .overflow rest =>
    .run (.asmOverflow (rest.take s.cfg.cap))
      { s with phase := .append (rest.take s.cfg.cap) (rest.drop s.cfg.cap) }
  | .append piece rest => .run (.asmAppend piece) { s with phase := .loop rest }
  | .loop _ => .run (asmInstr (asmSelect s.cfg s.buf)) s
  | .top => s.outputTurn
  | .waiting => s.outputTurn

/-- Who may call what from outside: the ports of R8. RX.NOTIFY is the producer's and lands at once; BUFFER_RESET lands
between two `ingest` calls; any other port is the worker's own and waits until the worker is between operations (R46,
R175, R190; log 16). -/
inductive CallKind where
  | atOnce
  | betweenIngests
  | betweenOperations
  | noPort
  deriving DecidableEq, Repr

/-- The kind of call each instruction admits. -/
def callKind : Instr → CallKind
  | .rxNotify _ => .atOnce
  | .bufferReset => .betweenIngests
  | .checksum _ => .betweenOperations
  | .ingest _ => .betweenOperations
  | .dispatch _ => .betweenOperations
  | .encLinkAck => .betweenOperations
  | .encLinkNak _ => .betweenOperations
  | .encFull _ _ _ => .betweenOperations
  | .decCtrl _ _ => .betweenOperations
  | .decFull _ => .betweenOperations
  | .txEnqueue _ => .betweenOperations
  | .linkAck => .noPort
  | .linkNak _ => .noPort
  | .basicAppAck _ _ => .noPort
  | .basicAppNak _ _ => .noPort
  | .basicOperStateResp _ _ => .noPort
  | .basicPureackExtra _ _ => .noPort
  | .basicCustomerOverride _ _ => .noPort
  | .basicResponseExtra _ _ => .noPort
  | .basicUnknown _ => .noPort
  | .dlMaxPayloadReq _ _ => .noPort
  | .dlMaxPayloadResp _ _ => .noPort
  | .dlAckExtra _ _ => .noPort
  | .dlUnknown _ => .noPort
  | .intGetUtcReq _ _ => .noPort
  | .intGetUtcReqBadlen _ _ _ => .noPort
  | .intUtcResp _ _ _ => .noPort
  | .intAckExtra _ _ _ => .noPort
  | .intUnknown _ => .noPort
  | .unknownCategory _ _ _ => .noPort
  | .ckInit => .noPort
  | .ckByte _ _ _ => .noPort
  | .ckFinal _ _ => .noPort
  | .asmOverflow _ => .noPort
  | .asmAppend _ => .noPort
  | .asmCtrlAck => .noPort
  | .asmCtrlNak => .noPort
  | .asmWaitShort => .noPort
  | .asmResyncLen => .noPort
  | .asmWaitBody => .noPort
  | .asmResyncCk => .noPort
  | .asmEmitFull => .noPort
  | .workerLoop => .noPort
  | .txLinkAck => .noPort
  | .txLinkNak _ => .noPort
  | .txBasicAppAck _ => .noPort
  | .txDlMaxPayloadResp => .noPort
  | .txIntUtcResp => .noPort

/-- A port call: it runs now, or the worker moves first and the call stays next in line. -/
def State.callTurn (s : State) (i : Instr) (rest : List Input) : Action :=
  match callKind i with
  | .atOnce => .run i { s with inputs := rest }
  | .betweenIngests => if s.inIngest then s.workerTurn else .run i { s with inputs := rest }
  | .betweenOperations => if s.busy then s.workerTurn else .run i { s with inputs := rest }
  | .noPort => .refuse .notAPort

/-- The next step of the whole machine. -/
def State.nextAction (s : State) : Action :=
  match s.inputs with
  | [] => s.workerTurn
  | .work :: rest => ({ s with inputs := rest } : State).workerTurn
  | .call i :: rest => s.callTurn i rest
  | .sent n :: rest => .move (({ s with inputs := rest } : State).feedWire n)
  | .transport b :: rest => .move { s with inputs := rest, ready := b }
  | .grain n :: rest => .move { s with inputs := rest, grain := n }

/-- The state in which the worker's next step fetches a given frame: the frame is the next event, nothing is being taken
in or handed over before it, and the worker moves next (log 21). -/
def State.withFrameNext (s : State) (fr : Frame) : State :=
  { s with
    phase := .top
    replies := []
    events := .frame fr :: s.events
    inputs := if s.inputs.isEmpty then [] else .work :: s.inputs }

/-- The state in which the worker's next step examines given bytes as the candidate at the front of the buffer
(log 21). -/
def State.withBytesNext (s : State) (bytes : List Byte) : State :=
  { s with
    phase := .loop []
    buf := bytes
    inputs := if s.inputs.isEmpty then [] else .work :: s.inputs }

/-- Store the unit of a table word where the next step fetches it: as the next frame where the decoder finds one, else as
the candidate at the front of the buffer. -/
def State.withTableWord (s : State) (nbits w : Nat) : State :=
  match decodeFrame s.cfg (tableUnitBytes s.cfg nbits w) with
  | .ok fr => s.withFrameNext fr
  | .error _ => s.withBytesNext (tableUnitBytes s.cfg nbits w)

end Sys2Proof.Machine
end

