-- ==== Sys2Proof/Machine/Step.lean ====
section
/-! DEFINITION. One step of the machine. -/

namespace Sys2Proof.Machine

/-- One step: under a configuration that meets R11, the next action of the environment or the worker (R8, R9, R11). -/
def step (s : State) : Host.Outcome State Fault Refusal :=
  if configOk s.cfg then
    match s.nextAction with
    | .run i t => exec i t
    | .move t => .next t
    | .refuse r => .refused r
  else .refused .badConfiguration

/-- `s` with the unit of a table word stored where `step` fetches its next instruction (log 20, 21). -/
def State.withFetchWord (s : State) (nbits w : Nat) : State := s.withTableWord nbits w

end Sys2Proof.Machine
end

