-- ==== Sys2Proof/Safety.lean ====
section
/-! DEFINITION. What a good state is, in the terms the statements use: the capacity bounds of spec/10_state.md R20 and of
the two queues (R33), and the loop fixed point of spec/42_assembler.md R113. -/

namespace Sys2Proof.Machine

/-- The bound that the worker's position puts on the buffer: a piece that is about to be appended fits (R102, R104). -/
def State.pieceFits (s : State) : Bool :=
  match s.phase with
  | .append piece _ => decide (s.buf.length + piece.length ≤ s.cfg.cap)
  | .top => true
  | .waiting => true
  | .overflow _ => true
  | .loop _ => true

/-- Nothing holds more than it can: the AssemblyBuffer (R20), a piece about to be appended, and the two queues (R33). -/
def State.withinCapacity (s : State) : Bool :=
  s.buf.wf s.cfg.cap && s.pieceFits && decide (s.inbound.length ≤ s.cfg.qinCap)
    && decide (s.outbound.length ≤ s.cfg.qoutCap)

/-- Where no Assembler loop is about to run over new bytes, the buffer is at a fixed point of the loop (R113). -/
def State.settled (s : State) : Bool :=
  match s.phase with
  | .top => loopFixed s.cfg s.buf
  | .waiting => loopFixed s.cfg s.buf
  | .overflow _ => loopFixed s.cfg s.buf
  | .append _ _ => true
  | .loop _ => true

/-- A safe state: a configuration that meets R11, capacities respected, the buffer settled. -/
def State.safe (s : State) : Bool := configOk s.cfg && s.withinCapacity && s.settled

/-- A safe outcome: the machine goes on in a safe state; no fault and no refusal. -/
def safeOutcome : Host.Outcome State Fault Refusal → Bool
  | .next t => t.safe
  | .fault _ => false
  | .refused _ => false

end Sys2Proof.Machine
end

