-- ==== Sys2Proof/Certificates/Slice0/Obligations.lean ====
section
/-! DEFINITION. The statements for the provers. Each says of the machine what a rule of spec/ says, or (basis derived) what
follows from the rules or from a choice that the named log entry records. -/

namespace Sys2Proof.Statements

open Sys2Proof.Machine

/-- The outcome type, for short. -/
abbrev Out := Host.Outcome State Fault Refusal

/-- The first two bytes, where present, are no control frame (R67, R105, R106). -/
def noControl (cfg : Config) : List Byte → Prop
  | b0 :: b1 :: _ => ¬ (b0 = 0x06 ∧ b1 = cfg.ackT2) ∧ ¬ (b0 = 0x15 ∧ ∃ r, b1 = nakByte cfg.nakCode r)
  | _ => True

/-- The fixed point of the Assembler loop, in the words of R113 (a) and (b). -/
def atFixedPoint (cfg : Config) (buf : List Byte) : Prop :=
  noControl cfg buf ∧
  (buf.length < 6 ∨
    ∃ t1 t2 h l rest, buf = t1 :: t2 :: h :: l :: rest ∧ 6 ≤ buf.length ∧ 256 * h.toNat + l.toNat ≤ cfg.lmax ∧
      buf.length < 256 * h.toNat + l.toNat + 6)

/-- Where the worker goes when the loop stops: the next piece of the chunk, or the top of its loop (R103, R153). -/
def afterStop (rest : List Byte) : Phase := if rest = [] then .top else .overflow rest

/-- No overflow is reported. -/
def noLoss (events : List Event) : Prop := ∀ d, Event.loss d ∉ events

/-- The sum over `i` of `(n - i) * s[i]` (R87 item 2). -/
def weightedSum : List Byte → Nat
  | [] => 0
  | b :: bs => (bs.length + 1) * b.toNat + weightedSum bs

/-- The sum of the bytes. -/
def byteSum : List Byte → Nat
  | [] => 0
  | b :: bs => b.toNat + byteSum bs

/-- CK.BYTE for each byte in order, each on the accumulators the one before it returned. -/
def ckByteAll : List Byte → State → Option State
  | [], s => some s
  | b :: bs, s =>
    match s.result with
    | .acc c1 c2 =>
      match exec (.ckByte c1 c2 b) s with
      | .next t => ckByteAll bs t
      | _ => none
    | _ => none

/-- CK.INIT, CK.BYTE for each byte, CK.FINAL. -/
def ckSubSteps (bytes : List Byte) (s : State) : Option Out :=
  match exec .ckInit s with
  | .next t =>
    match ckByteAll bytes t with
    | some u =>
      match u.result with
      | .acc c1 c2 => some (exec (.ckFinal c1 c2) u)
      | _ => none
    | none => none
  | _ => none

/-- INGEST of several chunks in order. -/
def ingestAll : List (List Byte) → State → Option State
  | [], s => some s
  | c :: cs, s =>
    match exec (.ingest c) s with
    | .next t => ingestAll cs t
    | _ => none

/-- TX.ENQUEUE of several frames in order. -/
def offerAll : List (List Byte) → State → Option State
  | [], s => some s
  | b :: bs, s =>
    match exec (.txEnqueue b) s with
    | .next t => offerAll bs t
    | _ => none

/-- The worker's handling of the events of one `ingest`: DISPATCH of each frame, TX.ENQUEUE of each of its replies before
the next event; a report does nothing (R49, R153). -/
def handAll : List Event → State → Option State
  | [], s => some s
  | .frame fr :: es, s =>
    match exec (.dispatch fr) s with
    | .next t => (offerAll t.replies { t with replies := [] }).bind (handAll es)
    | _ => none
  | .loss _ :: es, s => handAll es s
  | .resync _ :: es, s => handAll es s

/-- The next input calls a port (R8) and gives ENC.FULL no body it cannot encode (R93). -/
def nextInputOk (s : State) : Prop :=
  match s.inputs with
  | .call i :: _ => callKind i ≠ .noPort ∧ ∀ t1 t2 body, i = .encFull t1 t2 body → body.length ≤ 65535
  | _ => True

/-- The two bytes of a link-layer ACK. -/
def ackBytes (cfg : Config) : List Byte := [0x06, cfg.ackT2]

/-- The two bytes of a link-layer NAK. -/
def nakBytes (cfg : Config) (r : NakReason) : List Byte := [0x15, nakByte cfg.nakCode r]

/-- A byte sequence followed by the two bytes of its checksum, high byte first (R84). -/
def stamped (pre : List Byte) : List Byte := pre ++ [hiByte (Machine.checksum pre), loByte (Machine.checksum pre)]

/-- The bytes of a full frame (R62, R93). -/
def fullBytes (t1 t2 : Byte) (body : List Byte) : List Byte :=
  stamped ([t1, t2, BitVec.ofNat 8 (body.length / 256), BitVec.ofNat 8 body.length] ++ body)

/-- The UTC-time response of R137, where its body fits a frame (R93); of a longer one the spec states no bytes, and nothing
is said (log 3). -/
def utcReply (cfg : Config) (f : List Byte) : Prop :=
  cfg.utcN + 2 ≤ 65535 → ∃ h l : Byte, 256 * h.toNat + l.toNat = cfg.utcN + 2 ∧
    f = stamped ([0x08, 0x02, h, l, cfg.opIntUtcResp.1, cfg.opIntUtcResp.2] ++ List.replicate cfg.utcN 0)

/-- The events that an operation from `s` to `t` has added. -/
def newEvents (s t : State) : List Event := t.events.drop s.events.length

/-- An outcome with the list of inputs put back. -/
def keepInputs (is : List Input) : Out → Out
  | .next t => .next { t with inputs := is }
  | .fault f => .fault f
  | .refused r => .refused r

/-- The worker's turn, with the inputs that are left after it: the step of the state with no input listed. -/
def workersTurn (s : State) (is : List Input) : Out := keepInputs is (step { s with inputs := [] })

end Sys2Proof.Statements

section Checksum

open Sys2Proof Sys2Proof.Machine Sys2Proof.Statements

/-- R81: CK.INIT answers the seeds and changes nothing else. -/
def Obligations.CkInitAnswersTheSeeds : Prop :=
  ∀ s : State, exec .ckInit s = .next { s with result := .acc 170 0 }

/-- R82: CK.BYTE's new accumulators, both in 0..254, the second computed from the NEW first. -/
def Obligations.CkByteUpdatesBothAccumulators : Prop :=
  ∀ (s : State) (c1 c2 b : Byte), c1.toNat ≤ 254 → c2.toNat ≤ 254 →
    ∃ d1 d2 : Byte, exec (.ckByte c1 c2 b) s = .next { s with result := .acc d1 d2 } ∧
      d1.toNat = (c1.toNat + b.toNat) % 255 ∧ d2.toNat = (c2.toNat + d1.toNat) % 255 ∧
      d1.toNat ≤ 254 ∧ d2.toNat ≤ 254

/-- R83: CK.FINAL's result, the high byte from both accumulators, the low byte from `c1` and the high byte. -/
def Obligations.CkFinalPacksHighByteFirst : Prop :=
  ∀ (s : State) (c1 c2 : Byte), c1.toNat ≤ 254 → c2.toNat ≤ 254 →
    ∃ (w : Word16) (hi lo : Nat), exec (.ckFinal c1 c2) s = .next { s with result := .word w } ∧
      hi = 255 - (c1.toNat + c2.toNat) % 255 ∧ lo = 255 - (c1.toNat + hi) % 255 ∧ w.toNat = 256 * hi + lo

/-- R80: CHECKSUM is CK.INIT, CK.BYTE for each byte in order, CK.FINAL, and leaves everything but the answer alone. -/
def Obligations.ChecksumIsItsSubSteps : Prop :=
  ∀ (s : State) (bytes : List Byte),
    (∃ w, exec (.checksum bytes) s = .next { s with result := .word w }) ∧
    ckSubSteps bytes s = some (exec (.checksum bytes) s)

/-- R87 (2), an inference the spec marks as its own, with R83: the answer of CHECKSUM in closed form. -/
def Obligations.ChecksumClosedForm : Prop :=
  ∀ (s : State) (bytes : List Byte), ∃ (w : Word16) (c1 c2 hi lo : Nat),
    exec (.checksum bytes) s = .next { s with result := .word w } ∧
    c1 = (170 + byteSum bytes) % 255 ∧ c2 = (170 * bytes.length + weightedSum bytes) % 255 ∧
    hi = 255 - (c1 + c2) % 255 ∧ lo = 255 - (c1 + hi) % 255 ∧ w.toNat = 256 * hi + lo

/-- R87 (3), the spec's inference from R81 to R83: a change of one byte goes unseen exactly when the two bytes are equal
or are 0x00 and 0xFF. -/
def Obligations.ChecksumSingleByteChange : Prop :=
  ∀ (pre post : List Byte) (b b' : Byte),
    Machine.checksum (pre ++ b :: post) = Machine.checksum (pre ++ b' :: post) ↔
      b = b' ∨ (b = 0x00 ∧ b' = 0xFF) ∨ (b = 0xFF ∧ b' = 0x00)

/-- R87 (4) and (5), the spec's inferences from R81 to R83: no result byte is 0x00, and accumulating a sequence followed
by its checksum ends in (0, 0). -/
def Obligations.ChecksumRangeAndResidue : Prop :=
  ∀ bytes : List Byte, hiByte (Machine.checksum bytes) ≠ 0 ∧ loByte (Machine.checksum bytes) ≠ 0 ∧
    (stamped bytes).foldl ckAccumulate ckSeed = ⟨0, 0⟩

end Checksum

section Wire

open Sys2Proof Sys2Proof.Machine Sys2Proof.Statements

/-- R91, R92: the two control-frame encoders. -/
def Obligations.ControlEncodersAnswerTwoBytes : Prop :=
  ∀ s : State, configOk s.cfg = true →
    exec .encLinkAck s = .next { s with result := .bytes [0x06, s.cfg.ackT2] } ∧
    ∀ r, exec (.encLinkNak r) s = .next { s with result := .bytes [0x15, nakByte s.cfg.nakCode r] }

/-- R93: the bytes of ENC.FULL. -/
def Obligations.EncFullStampsTheFrame : Prop :=
  ∀ (s : State) (t1 t2 : Byte) (body : List Byte), body.length ≤ 65535 →
    ∃ pre : List Byte,
      pre = [t1, t2, BitVec.ofNat 8 (body.length / 256), BitVec.ofNat 8 (body.length % 256)] ++ body ∧
      exec (.encFull t1 t2 body) s =
        .next { s with result := .bytes (pre ++ [hiByte (Machine.checksum pre), loByte (Machine.checksum pre)]) }

/-- R94 with D11 (log 27): DEC.CTRL accepts exactly the configured pairs. -/
def Obligations.DecCtrlAcceptsExactPairs : Prop :=
  ∀ (s : State) (b0 b1 : Byte), configOk s.cfg = true →
    (b0 = 0x06 → b1 = s.cfg.ackT2 → exec (.decCtrl b0 b1) s = .next { s with result := .ctrl (some .ack) }) ∧
    (∀ r, b0 = 0x15 → b1 = nakByte s.cfg.nakCode r →
      exec (.decCtrl b0 b1) s = .next { s with result := .ctrl (some (.nak r)) }) ∧
    (noControl s.cfg [b0, b1] → exec (.decCtrl b0 b1) s = .next { s with result := .ctrl none })

/-- R95: DEC.FULL on every byte sequence: too short, a length that does not fit, a wrong checksum, or the frame. -/
def Obligations.DecFullDecidesEverySequence : Prop :=
  ∀ s : State,
    (∀ f : List Byte, f.length < 6 → exec (.decFull f) s = .next { s with result := .full (.invalid .tooShort) }) ∧
    (∀ (t1 t2 h l : Byte) (rest : List Byte), 2 ≤ rest.length → rest.length ≠ 256 * h.toNat + l.toNat + 2 →
      exec (.decFull (t1 :: t2 :: h :: l :: rest)) s = .next { s with result := .full (.invalid .lengthMismatch) }) ∧
    (∀ (t1 t2 h l kh kl : Byte) (body : List Byte), body.length = 256 * h.toNat + l.toNat →
      exec (.decFull (t1 :: t2 :: h :: l :: (body ++ [kh, kl]))) s = .next (s.answer (.full
        (if (Machine.checksum (t1 :: t2 :: h :: l :: body)).toNat = 256 * kh.toNat + kl.toNat
          then .full t1 t2 body else .invalid .checksum))))

/-- R96: encode and decode are exact inverses on full frames and on control frames. -/
def Obligations.EncodeAndDecodeAreInverse : Prop :=
  (∀ (t1 t2 : Byte) (body : List Byte), body.length ≤ 65535 →
    decodeFull (encodeFull t1 t2 body) = .full t1 t2 body) ∧
  (∀ (f : List Byte) (t1 t2 : Byte) (body : List Byte), decodeFull f = .full t1 t2 body → encodeFull t1 t2 body = f) ∧
  (∀ cfg : Config, configOk cfg = true →
    (∀ b0 b1, encodeLinkAck cfg = [b0, b1] → decodeCtrl cfg b0 b1 = some .ack) ∧
    ∀ r b0 b1, encodeLinkNak cfg r = [b0, b1] → decodeCtrl cfg b0 b1 = some (.nak r))

end Wire

section Encoding

open Sys2Proof Sys2Proof.Machine Sys2Proof.Statements

/-- Decode after encode, for every well-formed received unit with every operand (R71, R96). -/
def Obligations.DecodeOfEncodedUnit : Prop :=
  ∀ (cfg : Config) (i : Instr), configOk cfg = true → i.wf cfg = true → i.isReceived = true →
    ∃ bytes, encode cfg i = some bytes ∧ decode cfg bytes = .ok i

/-- Encode after decode: what the decoder reads is a well-formed received unit whose encoding is the very bytes. -/
def Obligations.EncodeOfDecodedBytes : Prop :=
  ∀ (cfg : Config) (i : Instr) (bytes : List Byte), configOk cfg = true → decode cfg bytes = .ok i →
    i.wf cfg = true ∧ i.isReceived = true ∧ encode cfg i = some bytes

/-- The emitted templates are units that a like receiver reads: the frame values they carry (R73, R96). -/
def Obligations.TemplatesDecodeToTheirFrames : Prop :=
  ∀ cfg : Config, configOk cfg = true →
    (∀ bytes, encode cfg .txLinkAck = some bytes → decode cfg bytes = .ok .linkAck) ∧
    (∀ r bytes, encode cfg (.txLinkNak r) = some bytes → decode cfg bytes = .ok (.linkNak r)) ∧
    (∀ e bytes, encode cfg (.txBasicAppAck e) = some bytes →
      decodeFrame cfg bytes = .ok (.full 0x08 0x01 [cfg.opBasicAppAck, e])) ∧
    (∀ bytes, encode cfg .txDlMaxPayloadResp = some bytes →
      decodeFrame cfg bytes = .ok (.full 0x08 0x03 [cfg.opDlMaxPayloadResp, cfg.maxPayloadClass])) ∧
    (∀ bytes, encode cfg .txIntUtcResp = some bytes →
      decodeFrame cfg bytes = .ok (.full 0x08 0x02
        (cfg.opIntUtcResp.1 :: cfg.opIntUtcResp.2 :: List.replicate cfg.utcN 0)))

/-- Sanity: words written out from the spec's examples, under the reference configuration (log 1, 2). -/
def Obligations.WrittenOutWordsDecode : Prop :=
  decode refConfig [0x06, 0x00] = .ok .linkAck ∧
  decode refConfig [0x15, 0x03] = .ok (.linkNak .checksumError) ∧
  decode refConfig [0x08, 0x01, 0x00, 0x02, 0x03, 0x00, 0x06, 0x41] = .ok (.basicAppAck 0x03 [0x00]) ∧
  decode refConfig [0x08, 0x03, 0x00, 0x02, 0x18, 0x00, 0xBA, 0x75] = .ok (.dlMaxPayloadReq 0x18 [0x00]) ∧
  decode refConfig [0x08, 0x02, 0x00, 0x02, 0x02, 0x00, 0x03, 0x44] = .ok (.intGetUtcReq 0x02 0x00) ∧
  decode refConfig [0x08, 0x04, 0x00, 0x02, 0x01, 0x00, 0xF9, 0x4C] = .ok (.unknownCategory 0x08 0x04 [0x01, 0x00])

end Encoding

section Assembler

open Sys2Proof Sys2Proof.Machine Sys2Proof.Statements

/-- R105, R106: a control frame at the front is emitted with no checksum and exactly its two bytes go. -/
def Obligations.ControlStepsEmitAndDropTwo : Prop :=
  ∀ (s : State) (rest : List Byte), configOk s.cfg = true →
    (s.buf = 0x06 :: s.cfg.ackT2 :: rest → exec .asmCtrlAck s =
      .next { s with buf := rest, events := s.events ++ [.frame (.ctrl .ack)], pos := s.pos + 2 }) ∧
    (∀ r, s.buf = 0x15 :: nakByte s.cfg.nakCode r :: rest → exec .asmCtrlNak s =
      .next { s with buf := rest, events := s.events ++ [.frame (.ctrl (.nak r))], pos := s.pos + 2 })

/-- R107, R109: a candidate that is too short, or short of its declared size, stops the loop; nothing is emitted and the
buffer keeps its bytes. Where the worker goes next is `afterStop` (log 12). -/
def Obligations.WaitStepsStopTheLoop : Prop :=
  ∀ (s : State) (rest : List Byte), configOk s.cfg = true → s.phase = .loop rest → noControl s.cfg s.buf →
    (s.buf.length < 6 → exec .asmWaitShort s = .next { s with phase := afterStop rest }) ∧
    (∀ t1 t2 h l tl, s.buf = t1 :: t2 :: h :: l :: tl → 6 ≤ s.buf.length → 256 * h.toNat + l.toNat ≤ s.cfg.lmax →
      s.buf.length < 256 * h.toNat + l.toNat + 6 → exec .asmWaitBody s = .next { s with phase := afterStop rest })

/-- R108 (the event is D12's): a declared length over `LMAX`, or a frame over `C`, drops exactly one byte. -/
def Obligations.ResyncLenDropsOneByte : Prop :=
  ∀ (s : State) (t1 t2 h l : Byte) (tl : List Byte), configOk s.cfg = true → s.buf = t1 :: t2 :: h :: l :: tl →
    6 ≤ s.buf.length → noControl s.cfg s.buf →
    (s.cfg.lmax < 256 * h.toNat + l.toNat ∨ s.cfg.cap < 256 * h.toNat + l.toNat + 6) →
    exec .asmResyncLen s =
      .next { s with buf := t2 :: h :: l :: tl, events := s.events ++ [.resync .length], pos := s.pos + 1 }

/-- R110 (the event is D12's): a stored checksum that differs from the computed one drops exactly one byte. -/
def Obligations.ResyncCkDropsOneByte : Prop :=
  ∀ (s : State) (t1 t2 h l kh kl : Byte) (body rest : List Byte), configOk s.cfg = true →
    s.buf = t1 :: t2 :: h :: l :: (body ++ kh :: kl :: rest) → body.length = 256 * h.toNat + l.toNat →
    body.length ≤ s.cfg.lmax → noControl s.cfg s.buf →
    (Machine.checksum (t1 :: t2 :: h :: l :: body)).toNat ≠ 256 * kh.toNat + kl.toNat →
    exec .asmResyncCk s =
      .next { s with buf := t2 :: h :: l :: (body ++ kh :: kl :: rest), events := s.events ++ [.resync .checksum],
                     pos := s.pos + 1 }

/-- R111: a candidate whose stored checksum matches is emitted, whatever its type pair, and exactly its bytes go. -/
def Obligations.EmitFullEmitsTheFrame : Prop :=
  ∀ (s : State) (t1 t2 h l kh kl : Byte) (body rest : List Byte), configOk s.cfg = true →
    s.buf = t1 :: t2 :: h :: l :: (body ++ kh :: kl :: rest) → body.length = 256 * h.toNat + l.toNat →
    body.length ≤ s.cfg.lmax → noControl s.cfg s.buf →
    (Machine.checksum (t1 :: t2 :: h :: l :: body)).toNat = 256 * kh.toNat + kl.toNat →
    exec .asmEmitFull s =
      .next { s with buf := rest, events := s.events ++ [.frame (.full t1 t2 body)], pos := s.pos + (body.length + 6) }

/-- The model's choice (log 13), read from "the step does not fire" (42_assembler.md): a loop step that the front of the
buffer does not select changes nothing. -/
def Obligations.UnselectedLoopStepsDoNothing : Prop :=
  ∀ (s : State) (a : AsmStep), configOk s.cfg = true → asmInstr a ≠ asmInstr (asmSelect s.cfg s.buf) →
    exec (asmInstr a) s = .next s

/-- R102: an overflow discards exactly the excess, oldest bytes first, and reports it; no overflow, no effect. -/
def Obligations.OverflowDiscardsTheExcess : Prop :=
  ∀ (s : State) (chunk : List Byte), configOk s.cfg = true → chunk.length ≤ s.cfg.cap →
    (s.buf.length + chunk.length ≤ s.cfg.cap → exec (.asmOverflow chunk) s = .next s) ∧
    (∀ d, s.buf.length + chunk.length = s.cfg.cap + d → 1 ≤ d →
      d ≤ s.buf.length ∧
      exec (.asmOverflow chunk) s =
        .next { s with buf := s.buf.drop d, events := s.events ++ [.loss d], pos := s.pos + d })

/-- R104: the chunk is appended whole, in order, at the back; then the loop starts. -/
def Obligations.AppendAddsTheChunkAtTheBack : Prop :=
  ∀ (s : State) (chunk : List Byte), configOk s.cfg = true → s.buf.length + chunk.length ≤ s.cfg.cap →
    exec (.asmAppend chunk) s = .next { s with buf := s.buf ++ chunk } ∧
    ∀ rest, s.inputs = [] → s.phase = .append chunk rest →
      step s = .next { s with buf := s.buf ++ chunk, phase := .loop rest }

/-- R101 with R112 and R113 (the spec's inferences): INGEST of any chunk completes at a fixed point of the loop, with at
least one byte of room; it changes the buffer, the events and the cursor only; events are added at the end; and the bytes
in the buffer are a tail of the bytes that were there followed by the chunk, the cursor counting the rest. -/
def Obligations.IngestReachesAFixedPoint : Prop :=
  ∀ (s : State) (chunk : List Byte), configOk s.cfg = true → s.inIngest = false →
    ∃ (buf : List Byte) (more : List Event) (n : Nat),
      exec (.ingest chunk) s = .next { s with buf := buf, events := s.events ++ more, pos := s.pos + n } ∧
      atFixedPoint s.cfg buf ∧ buf.length ≤ s.cfg.lmax + 5 ∧ buf.length < s.cfg.cap ∧
      n ≤ (s.buf ++ chunk).length ∧ buf = (s.buf ++ chunk).drop n

/-- R8, R101, with the pieces of D13 (R103; log 27) and the worker's positions of log 12: the worker's small steps from the
start of an `ingest` to its end do what INGEST does at once. -/
def Obligations.IngestIsItsSmallSteps : Prop :=
  ∀ (s : State) (chunk : List Byte), configOk s.cfg = true → s.phase = .top → s.inputs = [] →
    ∃ k, Host.Core.run Sys2Proof.core k { s with phase := .overflow chunk } = exec (.ingest chunk) s

/-- R114, the spec's inference from R101 to R111: any split of a byte sequence gives the same events in the same order and
the same final state, when no call of either run adds a report of a loss to the events that are already there. -/
def Obligations.ChunkingIsInvisible : Prop :=
  ∀ (s t u : State) (chunks : List (List Byte)), configOk s.cfg = true → s.inIngest = false →
    atFixedPoint s.cfg s.buf → exec (.ingest chunks.flatten) s = .next t → ingestAll chunks s = some u →
    noLoss (newEvents s t) → noLoss (newEvents s u) → t = u

/-- R115, the spec's inference from R113: an empty chunk at a fixed point emits nothing and changes nothing. -/
def Obligations.EmptyChunkDoesNothing : Prop :=
  ∀ s : State, configOk s.cfg = true → s.inIngest = false → atFixedPoint s.cfg s.buf → exec (.ingest []) s = .next s

/-- R116 (one direction), the spec's inference from R105 to R111: garbage in front of a valid frame, each of whose
candidates is rejected on the bytes present, costs one resynchronization a byte, and the frame comes out of the same call.
-/
def Obligations.GarbageIsSkippedByteByByte : Prop :=
  ∀ (s : State) (garbage body : List Byte) (t1 t2 : Byte), configOk s.cfg = true → s.inIngest = false → s.buf = [] →
    body.length ≤ s.cfg.lmax → noControl s.cfg [t1, t2] →
    (garbage ++ fullBytes t1 t2 body).length ≤ s.cfg.cap →
    (∀ k, k < garbage.length → asmSelect s.cfg ((garbage ++ fullBytes t1 t2 body).drop k) = .resyncLen ∨
      asmSelect s.cfg ((garbage ++ fullBytes t1 t2 body).drop k) = .resyncCk) →
    ∃ causes : List ResyncCause, causes.length = garbage.length ∧
      exec (.ingest (garbage ++ fullBytes t1 t2 body)) s =
        .next { s with events := s.events ++ (causes.map Event.resync ++ [.frame (.full t1 t2 body)]),
                       pos := s.pos + (garbage.length + body.length + 6) }

/-- R117 (silent and on the buffer alone: D10, log 27): BUFFER_RESET between two `ingest` calls empties the buffer. -/
def Obligations.BufferResetEmptiesTheBuffer : Prop :=
  ∀ s : State, s.inIngest = false →
    exec .bufferReset s = .next { s with buf := [], pos := s.pos + s.buf.length }

/-- The model's stops: ENC.FULL of a body that R93 says cannot be encoded (log 18), the two steps given more bytes than R102
and R104 allow their operand (log 14), a second operation on the buffer inside a running `ingest` and the worker's loop while
the worker is inside an operation (R190, U14; log 15). -/
def Obligations.UsesOutsideTheContractStop : Prop :=
  ∀ s : State, configOk s.cfg = true →
    (∀ t1 t2 body, 65535 < body.length → exec (.encFull t1 t2 body) s = .refused .bodyTooLong) ∧
    (∀ chunk, s.cfg.cap < chunk.length → exec (.asmOverflow chunk) s = .fault .discardBeyondFill) ∧
    (∀ chunk, s.cfg.cap < s.buf.length + chunk.length → exec (.asmAppend chunk) s = .fault .appendBeyondCapacity) ∧
    (s.inIngest = true → exec .bufferReset s = .refused .concurrentOperation ∧
      ∀ chunk, exec (.ingest chunk) s = .refused .concurrentOperation) ∧
    (s.busy = true → exec .workerLoop s = .refused .concurrentOperation)

/-- R112, the spec's inference from R105 to R111: an iteration of the loop stops without an effect on the buffer, or
reports one event and removes 1, 2 or `L + 6` bytes. -/
def Obligations.LoopIterationsMakeProgress : Prop :=
  ∀ (s : State) (rest : List Byte), configOk s.cfg = true → s.phase = .loop rest → s.inputs = [] →
    step s = .next { s with phase := afterStop rest } ∨
    ∃ e n, 1 ≤ n ∧ n ≤ s.buf.length ∧ (n = 1 ∨ n = 2 ∨ n = declaredLength s.buf + 6) ∧
      step s = .next { s with buf := s.buf.drop n, events := s.events ++ [e], pos := s.pos + n }

end Assembler

section Dispatcher

open Sys2Proof Sys2Proof.Machine Sys2Proof.Statements

/-- R125 to R128, R130, R133, R134, R139, R140: the acknowledgement-style units and the responses get one link-layer ACK
and change nothing else. -/
def Obligations.AckUnitsGetOneAck : Prop :=
  ∀ s : State, configOk s.cfg = true →
    (∀ op args, exec (.basicAppAck op args) s = .next { s with replies := s.replies ++ [ackBytes s.cfg] }) ∧
    (∀ op args, exec (.basicAppNak op args) s = .next { s with replies := s.replies ++ [ackBytes s.cfg] }) ∧
    (∀ op args, exec (.basicOperStateResp op args) s = .next { s with replies := s.replies ++ [ackBytes s.cfg] }) ∧
    (∀ op args, exec (.basicPureackExtra op args) s = .next { s with replies := s.replies ++ [ackBytes s.cfg] }) ∧
    (∀ op args, exec (.basicResponseExtra op args) s = .next { s with replies := s.replies ++ [ackBytes s.cfg] }) ∧
    (∀ op args, exec (.dlMaxPayloadResp op args) s = .next { s with replies := s.replies ++ [ackBytes s.cfg] }) ∧
    (∀ op args, exec (.dlAckExtra op args) s = .next { s with replies := s.replies ++ [ackBytes s.cfg] }) ∧
    (∀ a b p, exec (.intUtcResp a b p) s = .next { s with replies := s.replies ++ [ackBytes s.cfg] }) ∧
    (∀ a b p, exec (.intAckExtra a b p) s = .next { s with replies := s.replies ++ [ackBytes s.cfg] })

/-- R131, R135, R138, R143, R145: the units answered with a single NAK, and its reason. -/
def Obligations.UnsupportedUnitsGetOneNak : Prop :=
  ∀ s : State, configOk s.cfg = true →
    (∀ body, exec (.basicUnknown body) s =
      .next { s with replies := s.replies ++ [nakBytes s.cfg .unsupportedMessageType] }) ∧
    (∀ body, exec (.dlUnknown body) s =
      .next { s with replies := s.replies ++ [nakBytes s.cfg .requestNotSupported] }) ∧
    (∀ a b p, exec (.intGetUtcReqBadlen a b p) s =
      .next { s with replies := s.replies ++ [nakBytes s.cfg .requestNotSupported] }) ∧
    (∀ body, exec (.intUnknown body) s =
      .next { s with replies := s.replies ++ [nakBytes s.cfg .requestNotSupported] }) ∧
    (∀ t1 t2 body, exec (.unknownCategory t1 t2 body) s =
      .next { s with replies := s.replies ++ [nakBytes s.cfg .requestNotSupported] })

/-- D15 (log 27): a received control frame gets no reply and changes no state, whatever the reason of a NAK. -/
def Obligations.ControlUnitsGetNoReply : Prop :=
  ∀ s : State, configOk s.cfg = true → exec .linkAck s = .next s ∧ ∀ r, exec (.linkNak r) s = .next s

/-- R129 with the echo where D18 puts it (log 27): ACK first, then the application acknowledgement. -/
def Obligations.CustomerOverrideGetsAckThenEcho : Prop :=
  ∀ (s : State) (op : Byte) (args : List Byte), configOk s.cfg = true →
    exec (.basicCustomerOverride op args) s =
      .next { s with replies := s.replies ++
        [ackBytes s.cfg, stamped [0x08, 0x01, 0x00, 0x02, s.cfg.opBasicAppAck, op]] }

/-- R132 with the reply's length from D18 (log 27): ACK first, then the max-payload response with the configured class. -/
def Obligations.MaxPayloadRequestGetsAckThenClass : Prop :=
  ∀ (s : State) (op : Byte) (args : List Byte), configOk s.cfg = true →
    exec (.dlMaxPayloadReq op args) s =
      .next { s with replies := s.replies ++
        [ackBytes s.cfg, stamped [0x08, 0x03, 0x00, 0x02, s.cfg.opDlMaxPayloadResp, s.cfg.maxPayloadClass]] }

/-- R136 with the layout of D8 (log 27): ACK first, then the UTC-time response whose `UTC_N` payload bytes are zero; where
`UTC_N + 2` exceeds 65535 the response's bytes are open (log 3) and all else is the same. -/
def Obligations.UtcRequestGetsAckThenZeroTime : Prop :=
  ∀ (s : State) (op1 op2 : Byte), configOk s.cfg = true →
    ∃ f : List Byte, utcReply s.cfg f ∧
      exec (.intGetUtcReq op1 op2) s = .next { s with replies := s.replies ++ [ackBytes s.cfg, f] }

/-- R122 and its table R144 (the spec's inference): the outcome of DISPATCH for each category and class, with the choices
of D8, D14, D15 and D18 (log 27) and the open bytes of a UTC-time response that cannot be encoded (log 3). -/
def Obligations.DispatchFollowsTheOutcomeTable : Prop :=
  ∀ s : State, configOk s.cfg = true →
    (∀ c, exec (.dispatch (.ctrl c)) s = .next s) ∧
    (∀ t1 t2 body, categoryOf t1 t2 = none → exec (.dispatch (.full t1 t2 body)) s =
      .next { s with replies := s.replies ++ [nakBytes s.cfg .requestNotSupported] }) ∧
    (∀ body, (lookupBasic s.cfg body).map basicClass = some .pureAck ∨
        (lookupBasic s.cfg body).map basicClass = some .response →
      exec (.dispatch (.full 0x08 0x01 body)) s = .next { s with replies := s.replies ++ [ackBytes s.cfg] }) ∧
    (∀ op args, (basicOp s.cfg op).map basicClass = some .customerOverride →
      exec (.dispatch (.full 0x08 0x01 (op :: args))) s =
        .next { s with replies := s.replies ++ [ackBytes s.cfg, fullBytes 0x08 0x01 [s.cfg.opBasicAppAck, op]] }) ∧
    (∀ body, lookupBasic s.cfg body = none → exec (.dispatch (.full 0x08 0x01 body)) s =
      .next { s with replies := s.replies ++ [nakBytes s.cfg .unsupportedMessageType] }) ∧
    (∀ body, (lookupDataLink s.cfg body).map dataLinkClass = some .maxPayloadReq →
      exec (.dispatch (.full 0x08 0x03 body)) s =
        .next { s with replies := s.replies ++
          [ackBytes s.cfg, fullBytes 0x08 0x03 [s.cfg.opDlMaxPayloadResp, s.cfg.maxPayloadClass]] }) ∧
    (∀ body c, (lookupDataLink s.cfg body).map dataLinkClass = some c → c ≠ .maxPayloadReq →
      exec (.dispatch (.full 0x08 0x03 body)) s = .next { s with replies := s.replies ++ [ackBytes s.cfg] }) ∧
    (∀ body, lookupDataLink s.cfg body = none → exec (.dispatch (.full 0x08 0x03 body)) s =
      .next { s with replies := s.replies ++ [nakBytes s.cfg .requestNotSupported] }) ∧
    (∀ body, (lookupIntermediate s.cfg body).map intermediateClass = some .getUtcReq →
      (body.length = 2 → ∃ f : List Byte, utcReply s.cfg f ∧ exec (.dispatch (.full 0x08 0x02 body)) s =
        .next { s with replies := s.replies ++ [ackBytes s.cfg, f] }) ∧
      (body.length ≠ 2 → exec (.dispatch (.full 0x08 0x02 body)) s =
        .next { s with replies := s.replies ++ [nakBytes s.cfg .requestNotSupported] })) ∧
    (∀ body c, (lookupIntermediate s.cfg body).map intermediateClass = some c → c ≠ .getUtcReq →
      exec (.dispatch (.full 0x08 0x02 body)) s = .next { s with replies := s.replies ++ [ackBytes s.cfg] }) ∧
    (∀ body, lookupIntermediate s.cfg body = none → exec (.dispatch (.full 0x08 0x02 body)) s =
      .next { s with replies := s.replies ++ [nakBytes s.cfg .requestNotSupported] })

/-- R71, R122: the row that a frame is, run by itself, does what DISPATCH of the frame does. The rows of the three opcodes
that have a parameter of R10 are those of that opcode, whatever name the table lists it under (log 19). -/
def Obligations.RowsAgreeWithDispatch : Prop :=
  ∀ (s : State) (fr : Frame), configOk s.cfg = true →
    exec (classify s.cfg fr) s = exec (.dispatch fr) s ∧
    (∀ op args, fr = .full 0x08 0x01 (op :: args) →
      (classify s.cfg fr = .basicAppAck op args ↔ op = s.cfg.opBasicAppAck)) ∧
    (∀ args, fr = .full 0x08 0x03 (s.cfg.opDlMaxPayloadResp :: args) →
      classify s.cfg fr = .dlMaxPayloadResp s.cfg.opDlMaxPayloadResp args) ∧
    (∀ a b payload, fr = .full 0x08 0x02 (a :: b :: payload) →
      (classify s.cfg fr = .intUtcResp a b payload ↔ (a, b) = s.cfg.opIntUtcResp))

/-- R141, R142, the spec's inferences from R122: a full frame always gets one or two outbound frames; the first is a
control frame, a second one is a full frame and follows an ACK (of the
bytes of a UTC-time response that cannot be encoded nothing is said: log 3). -/
def Obligations.EveryFullFrameIsAnswered : Prop :=
  ∀ (s : State) (t1 t2 : Byte) (body : List Byte), configOk s.cfg = true →
    ∃ out : List (List Byte),
      exec (.dispatch (.full t1 t2 body)) s = .next { s with replies := s.replies ++ out } ∧
      (out = [ackBytes s.cfg] ∨ (∃ r, out = [nakBytes s.cfg r]) ∨
        ∃ f, out = [ackBytes s.cfg, f] ∧
          (65535 < s.cfg.utcN + 2 ∨ ∃ a b data, f = fullBytes a b data ∧ data.length ≤ 65535))

/-- R123, the spec's inference from R125 to R146: frames that differ only in bytes the Dispatcher does not read get the
same answer. -/
def Obligations.DispatchIgnoresThePayload : Prop :=
  ∀ (s : State) (t1 t2 : Byte) (body body' : List Byte), body.length = body'.length → opcode1 body = opcode1 body' →
    (t1 = 0x08 → t2 = 0x02 → opcode2 body = opcode2 body') →
    exec (.dispatch (.full t1 t2 body)) s = exec (.dispatch (.full t1 t2 body')) s

/-- R73: the five templates, each appended whole to the outbound sequence (log 22). R73 has TX.LINK_NAK for the two reasons
ever sent (R167); for the other six the same is the model's choice (log 28). The UTC-time response is the one of `utcReply`
(log 3). -/
def Obligations.TemplatesEmitTheirBytes : Prop :=
  ∀ s : State, configOk s.cfg = true →
    exec .txLinkAck s = .next { s with replies := s.replies ++ [ackBytes s.cfg] } ∧
    (∀ r, exec (.txLinkNak r) s = .next { s with replies := s.replies ++ [nakBytes s.cfg r] }) ∧
    (∀ e, exec (.txBasicAppAck e) s =
      .next { s with replies := s.replies ++ [stamped [0x08, 0x01, 0x00, 0x02, s.cfg.opBasicAppAck, e]] }) ∧
    exec .txDlMaxPayloadResp s =
      .next { s with replies := s.replies ++
        [stamped [0x08, 0x03, 0x00, 0x02, s.cfg.opDlMaxPayloadResp, s.cfg.maxPayloadClass]] } ∧
    ∃ f : List Byte, utcReply s.cfg f ∧ exec .txIntUtcResp s = .next { s with replies := s.replies ++ [f] }

end Dispatcher

section Transport

open Sys2Proof Sys2Proof.Machine Sys2Proof.Statements

/-- R151, R152: bytes that fit are appended in order and the signal is raised, raised already or not. -/
def Obligations.NotifyAppendsAndWakes : Prop :=
  ∀ (s : State) (chunk : List Byte), configOk s.cfg = true → s.inbound.length + chunk.length ≤ s.cfg.qinCap →
    exec (.rxNotify chunk) s = .next { s with inbound := s.inbound ++ chunk, wake := true }

/-- U9, the model's form (log 8): when bytes do not fit, some are lost before the block sees them; which ones is a free
value; none is invented or reordered, and the queue keeps its bound. -/
def Obligations.NotifyToAFullQueueLosesBytes : Prop :=
  ∀ (s : State) (chunk : List Byte), configOk s.cfg = true → s.cfg.qinCap < s.inbound.length + chunk.length →
    ∃ q : List Byte, q.Sublist (s.inbound ++ chunk) ∧ q.length ≤ s.cfg.qinCap ∧
      exec (.rxNotify chunk) s = .next { s with inbound := q, wake := true, draws := s.draws + 1 }

/-- R154, R155 (all or nothing: D19, log 27): the three answers of TX.ENQUEUE. -/
def Obligations.EnqueueIsAllOrNothing : Prop :=
  ∀ (s : State) (bytes : List Byte), configOk s.cfg = true →
    (s.ready = false → exec (.txEnqueue bytes) s = .next { s with result := .tx .notReady }) ∧
    (s.ready = true → s.cfg.qoutCap - s.outbound.length < bytes.length →
      exec (.txEnqueue bytes) s = .next { s with result := .tx .resourceExhausted }) ∧
    (s.ready = true → bytes.length ≤ s.cfg.qoutCap - s.outbound.length →
      exec (.txEnqueue bytes) s =
        .next { s with outbound := s.outbound ++ bytes, txEnabled := true, result := .tx .ok })

/-- R153: one pass of WORKER.LOOP between operations. With bytes queued it takes a non-empty front part of the queue,
ingests it, and hands every event on in order; with none and no signal it waits; with none and the signal raised it clears
the signal and is at the top again; a waiting worker that the signal wakes goes on from the top, one without it waits on
(log 12, 26). -/
def Obligations.WorkerLoopPass : Prop :=
  ∀ s : State, configOk s.cfg = true → s.busy = false →
    (s.phase = .top → s.inbound ≠ [] →
      ∃ (chunk rest : List Byte) (u t : State), chunk ≠ [] ∧ s.inbound = chunk ++ rest ∧
        exec (.ingest chunk) { s with inbound := rest } = .next u ∧
        handAll u.events { u with events := [] } = some t ∧
        exec .workerLoop s = .next t) ∧
    (s.inbound = [] → s.wake = false → exec .workerLoop s = .next { s with phase := .waiting }) ∧
    (s.inbound = [] → s.wake = true → exec .workerLoop s = .next { s with wake := false, phase := .top }) ∧
    (s.phase = .waiting → s.inbound ≠ [] → s.wake = true →
      exec .workerLoop s = exec .workerLoop { s with wake := false, phase := .top }) ∧
    (s.phase = .waiting → s.inbound ≠ [] → s.wake = false → exec .workerLoop s = .next s)

/-- R153, R8, with the worker's positions of log 12 and the extent of a pass of log 26: the worker's small steps with nothing
from outside in between do what one pass of WORKER.LOOP does. -/
def Obligations.WorkerLoopIsItsSmallSteps : Prop :=
  ∀ s : State, configOk s.cfg = true → s.busy = false → s.inputs = [] →
    ∃ k, Host.Core.run Sys2Proof.core k s = exec .workerLoop s

end Transport

section Whole

open Sys2Proof Sys2Proof.Machine Sys2Proof.Statements

/-- A step runs the decoded instruction: when the next event is the frame that some bytes decode to, the step is `exec` of
the instruction they decode to, in the state that has taken the event off the sequence. -/
def Obligations.StepRunsTheDecodedUnit : Prop :=
  ∀ (s : State) (bytes : List Byte) (fr : Frame) (i : Instr) (rest : List Event), configOk s.cfg = true →
    s.phase = .top ∨ s.phase = .waiting → s.replies = [] → s.events = .frame fr :: rest →
    decodeFrame s.cfg bytes = .ok fr → decode s.cfg bytes = .ok i →
    (s.inputs = [] → step s = exec i { s with events := rest }) ∧
    (∀ is, s.inputs = .work :: is → step s = exec i { s with events := rest, inputs := is })

/-- How received bytes become that event: inside the loop, bytes at the front of the buffer that decode to a unit whose
declared length is in range are emitted as the unit's frame in one step, and exactly they go. -/
def Obligations.LoopEmitsTheDecodableUnit : Prop :=
  ∀ (s : State) (bytes rest chunk : List Byte) (fr : Frame), configOk s.cfg = true → s.phase = .loop chunk →
    s.inputs = [] → s.buf = bytes ++ rest → decodeFrame s.cfg bytes = .ok fr → bytes.length ≤ s.cfg.lmax + 6 →
    step s = .next { s with buf := rest, events := s.events ++ [.frame fr], pos := s.pos + bytes.length }

/-- The other small steps of the worker: each runs one instruction, takes a report off the events (R153; log 24), or drains,
waits or wakes. That the worker goes to wait whenever it finds the queue empty, and is at the top again when woken, is the
reading of R153 that log 12 records. -/
def Obligations.StepRunsTheWorkersTurn : Prop :=
  ∀ s : State, configOk s.cfg = true → s.inputs = [] →
    (∀ rest, s.phase = .overflow rest → step s = exec (.asmOverflow (rest.take s.cfg.cap))
      { s with phase := .append (rest.take s.cfg.cap) (rest.drop s.cfg.cap) }) ∧
    (∀ piece rest, s.phase = .append piece rest → step s = exec (.asmAppend piece) { s with phase := .loop rest }) ∧
    (∀ rest, s.phase = .loop rest → step s = exec (asmInstr (asmSelect s.cfg s.buf)) s) ∧
    (∀ bytes rest, s.inIngest = false → s.replies = bytes :: rest →
      step s = exec (.txEnqueue bytes) { s with replies := rest }) ∧
    (∀ d rest, s.inIngest = false → s.replies = [] → s.events = .loss d :: rest →
      step s = .next { s with events := rest }) ∧
    (∀ c rest, s.inIngest = false → s.replies = [] → s.events = .resync c :: rest →
      step s = .next { s with events := rest }) ∧
    (s.busy = false → s.phase = .top → s.inbound = [] → step s = .next { s with phase := .waiting }) ∧
    (s.busy = false → s.phase = .waiting → s.wake = false → step s = .next s) ∧
    (s.busy = false → s.phase = .waiting → s.wake = true → step s = .next { s with wake := false, phase := .top }) ∧
    (s.busy = false → s.phase = .top → s.inbound ≠ [] → ∃ chunk rest, chunk ≠ [] ∧ s.inbound = chunk ++ rest ∧
      step s = .next { s with inbound := rest, phase := .overflow chunk })

/-- R35 (values decided by D10, log 27) with the model's choices for the other fields (log 1, 6, 7, 9, 10, 11): the value
of every field after reset but the counter of the free value, on which no statement rests (log 8); and that it is a safe
state. -/
def Obligations.ResetIsEmptyAndSafe : Prop :=
  State.reset.buf = [] ∧ State.reset.fill = 0 ∧ State.reset.events = [] ∧ State.reset.replies = [] ∧
  State.reset.inbound = [] ∧ State.reset.outbound = [] ∧ State.reset.wake = false ∧ State.reset.phase = .top ∧
  State.reset.cfg = refConfig ∧ State.reset.ready = true ∧ State.reset.txEnabled = false ∧ State.reset.wire = [] ∧
  State.reset.pos = 0 ∧ State.reset.inputs = [] ∧ State.reset.grain = 0 ∧ State.reset.result = .none ∧
  State.reset.safe = true

/-- R20, R33, R113 as an invariant: every step from a safe state leads to a safe state. -/
def Obligations.StepKeepsSafe : Prop :=
  ∀ s t : State, s.safe = true → step s = .next t → t.safe = true

/-- R165 "Nothing in the core is treated as fatal": from a safe state the machine always goes on, as long as the
environment calls only ports and gives ENC.FULL only bodies it can encode. -/
def Obligations.SafeStatesNeverStop : Prop :=
  ∀ s : State, s.safe = true → nextInputOk s → ∃ t, step s = .next t ∧ t.safe = true

/-- R28: no step changes the configuration. -/
def Obligations.ConfigurationIsConstant : Prop :=
  ∀ s t : State, step s = .next t → t.cfg = s.cfg

/-- R23, R24, R48: whatever the step, bytes enter the buffer only at the back, leave it only at the front, never change in
between, and the cursor counts those that left: it never moves backwards. No byte is invented: what enters is the piece that
the worker's position holds, or the chunk of an INGEST that the environment calls. -/
def Obligations.BufferChangesOnlyAtItsEnds : Prop :=
  ∀ s t : State, step s = .next t →
    ∃ (added : List Byte) (n : Nat), n ≤ (s.buf ++ added).length ∧ t.buf = (s.buf ++ added).drop n ∧
      t.pos = s.pos + n ∧
      (added = [] ∨ (∃ rest, s.phase = .append added rest) ∨ ∃ is, s.inputs = .call (.ingest added) :: is)

/-- R157, the spec's inference from R153, R154 and R156: whatever the step, the bytes on the wire and in the outbound
queue together grow by nothing or by one whole frame offered to TX.ENQUEUE, at the end. -/
def Obligations.OutboundGrowsByWholeFrames : Prop :=
  ∀ s t : State, step s = .next t →
    ∃ added : List Byte, t.wire ++ t.outbound = s.wire ++ s.outbound ++ added ∧
      (added = [] ∨ (∃ rest, s.replies = added :: rest) ∨ ∃ is, s.inputs = .call (.txEnqueue added) :: is)

/-- R167, R199, the spec's inferences from R108 and R110: the steps inside an `ingest` put nothing into the replies, the
outbound queue or the wire. -/
def Obligations.FramingErrorsAreSilent : Prop :=
  ∀ s t : State, s.inIngest = true → s.inputs = [] → step s = .next t →
    t.replies = s.replies ∧ t.outbound = s.outbound ∧ t.wire = s.wire

/-- The environment's turn (log 7, 16, 17, 25): the producer's notification lands at once (R151, R169), a buffer reset
between two `ingest` calls and never inside one (R46, D20; log 27), any other port between two operations of the worker
(R190). A call that must wait stays next in line and the step is the worker's turn, the one it would make with no input
listed; so is a turn of the worker that the environment lists, which is then used up. What is no port is refused. The
producer feeds the wire in queue order once transmission is enabled (R154, R157); the transport comes up or goes down
(R154); the adapter chooses its drain size (U19). -/
def Obligations.StepTakesTheEnvironmentsTurn : Prop :=
  ∀ (s : State) (is : List Input), configOk s.cfg = true →
    (∀ chunk, s.inputs = .call (.rxNotify chunk) :: is → step s = exec (.rxNotify chunk) { s with inputs := is }) ∧
    (s.inputs = .call .bufferReset :: is →
      (s.inIngest = true → step s = workersTurn s s.inputs) ∧
      (s.inIngest = false → step s = .next { s with inputs := is, buf := [], pos := s.pos + s.buf.length })) ∧
    (∀ i, callKind i = .betweenOperations → s.inputs = .call i :: is →
      (s.busy = true → step s = workersTurn s s.inputs) ∧
      (s.busy = false → step s = exec i { s with inputs := is })) ∧
    (∀ i, callKind i = .noPort → s.inputs = .call i :: is → step s = .refused .notAPort) ∧
    (s.inputs = .work :: is → step s = workersTurn s is) ∧
    (∀ n, s.inputs = .sent n :: is →
      (s.txEnabled = true → step s =
        .next { s with inputs := is, outbound := s.outbound.drop n, wire := s.wire ++ s.outbound.take n }) ∧
      (s.txEnabled = false → step s = .next { s with inputs := is })) ∧
    (∀ b, s.inputs = .transport b :: is → step s = .next { s with inputs := is, ready := b }) ∧
    (∀ n, s.inputs = .grain n :: is → step s = .next { s with inputs := is, grain := n })

/-- R11 (1), (2), (3) and (5), all but the first decided by D2 (log 4, 27): under a configuration that
breaks one, every step is refused. -/
def Obligations.BadConfigurationIsRefused : Prop :=
  ∀ s : State,
    (s.cfg.cap < s.cfg.lmax + 6 ∨ 65529 < s.cfg.lmax ∨
      (∃ r r' : NakReason, r ≠ r' ∧ nakByte s.cfg.nakCode r = nakByte s.cfg.nakCode r') ∨
      (s.cfg.basic.lookup s.cfg.opBasicAppAck).map basicClass ≠ some .pureAck ∨
      (s.cfg.dataLink.lookup s.cfg.opDlMaxPayloadResp).map dataLinkClass ≠ some .maxPayloadResp ∨
      (s.cfg.intermediate.lookup s.cfg.opIntUtcResp).map intermediateClass ≠ some .response) →
    step s = .refused .badConfiguration

end Whole
end

