-- ==== Sys2Proof/Laws/State.lean ====
section
/-! SUPPORT. One lemma for each field and each plain update of the state, true by rfl, so that no later proof unfolds a record
update. -/

namespace Sys2Proof.Machine

/-! ### `State.dropFront` -/

@[simp] theorem State.dropFront_cfg (s : State) (n : Nat) : (s.dropFront n).cfg = s.cfg := rfl
@[simp] theorem State.dropFront_buf (s : State) (n : Nat) : (s.dropFront n).buf = s.buf.drop n := rfl
@[simp] theorem State.dropFront_events (s : State) (n : Nat) : (s.dropFront n).events = s.events := rfl
@[simp] theorem State.dropFront_replies (s : State) (n : Nat) : (s.dropFront n).replies = s.replies := rfl
@[simp] theorem State.dropFront_result (s : State) (n : Nat) : (s.dropFront n).result = s.result := rfl
@[simp] theorem State.dropFront_phase (s : State) (n : Nat) : (s.dropFront n).phase = s.phase := rfl
@[simp] theorem State.dropFront_inbound (s : State) (n : Nat) : (s.dropFront n).inbound = s.inbound := rfl
@[simp] theorem State.dropFront_outbound (s : State) (n : Nat) : (s.dropFront n).outbound = s.outbound := rfl
@[simp] theorem State.dropFront_wake (s : State) (n : Nat) : (s.dropFront n).wake = s.wake := rfl
@[simp] theorem State.dropFront_ready (s : State) (n : Nat) : (s.dropFront n).ready = s.ready := rfl
@[simp] theorem State.dropFront_txEnabled (s : State) (n : Nat) : (s.dropFront n).txEnabled = s.txEnabled := rfl
@[simp] theorem State.dropFront_wire (s : State) (n : Nat) : (s.dropFront n).wire = s.wire := rfl
@[simp] theorem State.dropFront_pos (s : State) (n : Nat) : (s.dropFront n).pos = s.pos + n := rfl
@[simp] theorem State.dropFront_inputs (s : State) (n : Nat) : (s.dropFront n).inputs = s.inputs := rfl
@[simp] theorem State.dropFront_grain (s : State) (n : Nat) : (s.dropFront n).grain = s.grain := rfl
@[simp] theorem State.dropFront_draws (s : State) (n : Nat) : (s.dropFront n).draws = s.draws := rfl

/-! ### `State.append` -/

@[simp] theorem State.append_cfg (s : State) (chunk : List Byte) : (s.append chunk).cfg = s.cfg := rfl
@[simp] theorem State.append_buf (s : State) (chunk : List Byte) : (s.append chunk).buf = s.buf ++ chunk := rfl
@[simp] theorem State.append_events (s : State) (chunk : List Byte) : (s.append chunk).events = s.events := rfl
@[simp] theorem State.append_replies (s : State) (chunk : List Byte) : (s.append chunk).replies = s.replies := rfl
@[simp] theorem State.append_result (s : State) (chunk : List Byte) : (s.append chunk).result = s.result := rfl
@[simp] theorem State.append_phase (s : State) (chunk : List Byte) : (s.append chunk).phase = s.phase := rfl
@[simp] theorem State.append_inbound (s : State) (chunk : List Byte) : (s.append chunk).inbound = s.inbound := rfl
@[simp] theorem State.append_outbound (s : State) (chunk : List Byte) : (s.append chunk).outbound = s.outbound := rfl
@[simp] theorem State.append_wake (s : State) (chunk : List Byte) : (s.append chunk).wake = s.wake := rfl
@[simp] theorem State.append_ready (s : State) (chunk : List Byte) : (s.append chunk).ready = s.ready := rfl
@[simp] theorem State.append_txEnabled (s : State) (chunk : List Byte) : (s.append chunk).txEnabled = s.txEnabled := rfl
@[simp] theorem State.append_wire (s : State) (chunk : List Byte) : (s.append chunk).wire = s.wire := rfl
@[simp] theorem State.append_pos (s : State) (chunk : List Byte) : (s.append chunk).pos = s.pos := rfl
@[simp] theorem State.append_inputs (s : State) (chunk : List Byte) : (s.append chunk).inputs = s.inputs := rfl
@[simp] theorem State.append_grain (s : State) (chunk : List Byte) : (s.append chunk).grain = s.grain := rfl
@[simp] theorem State.append_draws (s : State) (chunk : List Byte) : (s.append chunk).draws = s.draws := rfl

/-! ### `State.clearBuffer` -/

@[simp] theorem State.clearBuffer_cfg (s : State) : s.clearBuffer.cfg = s.cfg := rfl
@[simp] theorem State.clearBuffer_buf (s : State) : s.clearBuffer.buf = [] := rfl
@[simp] theorem State.clearBuffer_events (s : State) : s.clearBuffer.events = s.events := rfl
@[simp] theorem State.clearBuffer_replies (s : State) : s.clearBuffer.replies = s.replies := rfl
@[simp] theorem State.clearBuffer_result (s : State) : s.clearBuffer.result = s.result := rfl
@[simp] theorem State.clearBuffer_phase (s : State) : s.clearBuffer.phase = s.phase := rfl
@[simp] theorem State.clearBuffer_inbound (s : State) : s.clearBuffer.inbound = s.inbound := rfl
@[simp] theorem State.clearBuffer_outbound (s : State) : s.clearBuffer.outbound = s.outbound := rfl
@[simp] theorem State.clearBuffer_wake (s : State) : s.clearBuffer.wake = s.wake := rfl
@[simp] theorem State.clearBuffer_ready (s : State) : s.clearBuffer.ready = s.ready := rfl
@[simp] theorem State.clearBuffer_txEnabled (s : State) : s.clearBuffer.txEnabled = s.txEnabled := rfl
@[simp] theorem State.clearBuffer_wire (s : State) : s.clearBuffer.wire = s.wire := rfl
@[simp] theorem State.clearBuffer_pos (s : State) : s.clearBuffer.pos = s.pos + s.buf.length := rfl
@[simp] theorem State.clearBuffer_inputs (s : State) : s.clearBuffer.inputs = s.inputs := rfl
@[simp] theorem State.clearBuffer_grain (s : State) : s.clearBuffer.grain = s.grain := rfl
@[simp] theorem State.clearBuffer_draws (s : State) : s.clearBuffer.draws = s.draws := rfl

/-! ### `State.emit` -/

@[simp] theorem State.emit_cfg (s : State) (e : Event) : (s.emit e).cfg = s.cfg := rfl
@[simp] theorem State.emit_buf (s : State) (e : Event) : (s.emit e).buf = s.buf := rfl
@[simp] theorem State.emit_events (s : State) (e : Event) : (s.emit e).events = s.events ++ [e] := rfl
@[simp] theorem State.emit_replies (s : State) (e : Event) : (s.emit e).replies = s.replies := rfl
@[simp] theorem State.emit_result (s : State) (e : Event) : (s.emit e).result = s.result := rfl
@[simp] theorem State.emit_phase (s : State) (e : Event) : (s.emit e).phase = s.phase := rfl
@[simp] theorem State.emit_inbound (s : State) (e : Event) : (s.emit e).inbound = s.inbound := rfl
@[simp] theorem State.emit_outbound (s : State) (e : Event) : (s.emit e).outbound = s.outbound := rfl
@[simp] theorem State.emit_wake (s : State) (e : Event) : (s.emit e).wake = s.wake := rfl
@[simp] theorem State.emit_ready (s : State) (e : Event) : (s.emit e).ready = s.ready := rfl
@[simp] theorem State.emit_txEnabled (s : State) (e : Event) : (s.emit e).txEnabled = s.txEnabled := rfl
@[simp] theorem State.emit_wire (s : State) (e : Event) : (s.emit e).wire = s.wire := rfl
@[simp] theorem State.emit_pos (s : State) (e : Event) : (s.emit e).pos = s.pos := rfl
@[simp] theorem State.emit_inputs (s : State) (e : Event) : (s.emit e).inputs = s.inputs := rfl
@[simp] theorem State.emit_grain (s : State) (e : Event) : (s.emit e).grain = s.grain := rfl
@[simp] theorem State.emit_draws (s : State) (e : Event) : (s.emit e).draws = s.draws := rfl

/-! ### `State.reply` -/

@[simp] theorem State.reply_cfg (s : State) (frames : List (List Byte)) : (s.reply frames).cfg = s.cfg := rfl
@[simp] theorem State.reply_buf (s : State) (frames : List (List Byte)) : (s.reply frames).buf = s.buf := rfl
@[simp] theorem State.reply_events (s : State) (frames : List (List Byte)) : (s.reply frames).events = s.events := rfl
@[simp] theorem State.reply_replies (s : State) (frames : List (List Byte)) : (s.reply frames).replies = s.replies ++ frames := rfl
@[simp] theorem State.reply_result (s : State) (frames : List (List Byte)) : (s.reply frames).result = s.result := rfl
@[simp] theorem State.reply_phase (s : State) (frames : List (List Byte)) : (s.reply frames).phase = s.phase := rfl
@[simp] theorem State.reply_inbound (s : State) (frames : List (List Byte)) : (s.reply frames).inbound = s.inbound := rfl
@[simp] theorem State.reply_outbound (s : State) (frames : List (List Byte)) : (s.reply frames).outbound = s.outbound := rfl
@[simp] theorem State.reply_wake (s : State) (frames : List (List Byte)) : (s.reply frames).wake = s.wake := rfl
@[simp] theorem State.reply_ready (s : State) (frames : List (List Byte)) : (s.reply frames).ready = s.ready := rfl
@[simp] theorem State.reply_txEnabled (s : State) (frames : List (List Byte)) : (s.reply frames).txEnabled = s.txEnabled := rfl
@[simp] theorem State.reply_wire (s : State) (frames : List (List Byte)) : (s.reply frames).wire = s.wire := rfl
@[simp] theorem State.reply_pos (s : State) (frames : List (List Byte)) : (s.reply frames).pos = s.pos := rfl
@[simp] theorem State.reply_inputs (s : State) (frames : List (List Byte)) : (s.reply frames).inputs = s.inputs := rfl
@[simp] theorem State.reply_grain (s : State) (frames : List (List Byte)) : (s.reply frames).grain = s.grain := rfl
@[simp] theorem State.reply_draws (s : State) (frames : List (List Byte)) : (s.reply frames).draws = s.draws := rfl

/-! ### `State.answer` -/

@[simp] theorem State.answer_cfg (s : State) (v : Value) : (s.answer v).cfg = s.cfg := rfl
@[simp] theorem State.answer_buf (s : State) (v : Value) : (s.answer v).buf = s.buf := rfl
@[simp] theorem State.answer_events (s : State) (v : Value) : (s.answer v).events = s.events := rfl
@[simp] theorem State.answer_replies (s : State) (v : Value) : (s.answer v).replies = s.replies := rfl
@[simp] theorem State.answer_result (s : State) (v : Value) : (s.answer v).result = v := rfl
@[simp] theorem State.answer_phase (s : State) (v : Value) : (s.answer v).phase = s.phase := rfl
@[simp] theorem State.answer_inbound (s : State) (v : Value) : (s.answer v).inbound = s.inbound := rfl
@[simp] theorem State.answer_outbound (s : State) (v : Value) : (s.answer v).outbound = s.outbound := rfl
@[simp] theorem State.answer_wake (s : State) (v : Value) : (s.answer v).wake = s.wake := rfl
@[simp] theorem State.answer_ready (s : State) (v : Value) : (s.answer v).ready = s.ready := rfl
@[simp] theorem State.answer_txEnabled (s : State) (v : Value) : (s.answer v).txEnabled = s.txEnabled := rfl
@[simp] theorem State.answer_wire (s : State) (v : Value) : (s.answer v).wire = s.wire := rfl
@[simp] theorem State.answer_pos (s : State) (v : Value) : (s.answer v).pos = s.pos := rfl
@[simp] theorem State.answer_inputs (s : State) (v : Value) : (s.answer v).inputs = s.inputs := rfl
@[simp] theorem State.answer_grain (s : State) (v : Value) : (s.answer v).grain = s.grain := rfl
@[simp] theorem State.answer_draws (s : State) (v : Value) : (s.answer v).draws = s.draws := rfl

/-! ### `State.recover` -/

@[simp] theorem State.recover_cfg (s : State) (e : Event) (n : Nat) : (s.recover e n).cfg = s.cfg := rfl
@[simp] theorem State.recover_buf (s : State) (e : Event) (n : Nat) : (s.recover e n).buf = s.buf.drop n := rfl
@[simp] theorem State.recover_events (s : State) (e : Event) (n : Nat) : (s.recover e n).events = s.events ++ [e] := rfl
@[simp] theorem State.recover_replies (s : State) (e : Event) (n : Nat) : (s.recover e n).replies = s.replies := rfl
@[simp] theorem State.recover_result (s : State) (e : Event) (n : Nat) : (s.recover e n).result = s.result := rfl
@[simp] theorem State.recover_phase (s : State) (e : Event) (n : Nat) : (s.recover e n).phase = s.phase := rfl
@[simp] theorem State.recover_inbound (s : State) (e : Event) (n : Nat) : (s.recover e n).inbound = s.inbound := rfl
@[simp] theorem State.recover_outbound (s : State) (e : Event) (n : Nat) : (s.recover e n).outbound = s.outbound := rfl
@[simp] theorem State.recover_wake (s : State) (e : Event) (n : Nat) : (s.recover e n).wake = s.wake := rfl
@[simp] theorem State.recover_ready (s : State) (e : Event) (n : Nat) : (s.recover e n).ready = s.ready := rfl
@[simp] theorem State.recover_txEnabled (s : State) (e : Event) (n : Nat) : (s.recover e n).txEnabled = s.txEnabled := rfl
@[simp] theorem State.recover_wire (s : State) (e : Event) (n : Nat) : (s.recover e n).wire = s.wire := rfl
@[simp] theorem State.recover_pos (s : State) (e : Event) (n : Nat) : (s.recover e n).pos = s.pos + n := rfl
@[simp] theorem State.recover_inputs (s : State) (e : Event) (n : Nat) : (s.recover e n).inputs = s.inputs := rfl
@[simp] theorem State.recover_grain (s : State) (e : Event) (n : Nat) : (s.recover e n).grain = s.grain := rfl
@[simp] theorem State.recover_draws (s : State) (e : Event) (n : Nat) : (s.recover e n).draws = s.draws := rfl

/-! ### `State.accept` -/

@[simp] theorem State.accept_cfg (s : State) (fr : Frame) (n : Nat) : (s.accept fr n).cfg = s.cfg := rfl
@[simp] theorem State.accept_buf (s : State) (fr : Frame) (n : Nat) : (s.accept fr n).buf = s.buf.drop n := rfl
@[simp] theorem State.accept_events (s : State) (fr : Frame) (n : Nat) : (s.accept fr n).events = s.events ++ [.frame fr] := rfl
@[simp] theorem State.accept_replies (s : State) (fr : Frame) (n : Nat) : (s.accept fr n).replies = s.replies := rfl
@[simp] theorem State.accept_result (s : State) (fr : Frame) (n : Nat) : (s.accept fr n).result = s.result := rfl
@[simp] theorem State.accept_phase (s : State) (fr : Frame) (n : Nat) : (s.accept fr n).phase = s.phase := rfl
@[simp] theorem State.accept_inbound (s : State) (fr : Frame) (n : Nat) : (s.accept fr n).inbound = s.inbound := rfl
@[simp] theorem State.accept_outbound (s : State) (fr : Frame) (n : Nat) : (s.accept fr n).outbound = s.outbound := rfl
@[simp] theorem State.accept_wake (s : State) (fr : Frame) (n : Nat) : (s.accept fr n).wake = s.wake := rfl
@[simp] theorem State.accept_ready (s : State) (fr : Frame) (n : Nat) : (s.accept fr n).ready = s.ready := rfl
@[simp] theorem State.accept_txEnabled (s : State) (fr : Frame) (n : Nat) : (s.accept fr n).txEnabled = s.txEnabled := rfl
@[simp] theorem State.accept_wire (s : State) (fr : Frame) (n : Nat) : (s.accept fr n).wire = s.wire := rfl
@[simp] theorem State.accept_pos (s : State) (fr : Frame) (n : Nat) : (s.accept fr n).pos = s.pos + n := rfl
@[simp] theorem State.accept_inputs (s : State) (fr : Frame) (n : Nat) : (s.accept fr n).inputs = s.inputs := rfl
@[simp] theorem State.accept_grain (s : State) (fr : Frame) (n : Nat) : (s.accept fr n).grain = s.grain := rfl
@[simp] theorem State.accept_draws (s : State) (fr : Frame) (n : Nat) : (s.accept fr n).draws = s.draws := rfl

/-! ### `State.takeDrained` -/

@[simp] theorem State.takeDrained_cfg (s : State) : s.takeDrained.cfg = s.cfg := rfl
@[simp] theorem State.takeDrained_buf (s : State) : s.takeDrained.buf = s.buf := rfl
@[simp] theorem State.takeDrained_events (s : State) : s.takeDrained.events = s.events := rfl
@[simp] theorem State.takeDrained_replies (s : State) : s.takeDrained.replies = s.replies := rfl
@[simp] theorem State.takeDrained_result (s : State) : s.takeDrained.result = s.result := rfl
@[simp] theorem State.takeDrained_phase (s : State) : s.takeDrained.phase = s.phase := rfl
@[simp] theorem State.takeDrained_inbound (s : State) : s.takeDrained.inbound = s.inbound.drop (drainSize s.grain s.inbound.length) := rfl
@[simp] theorem State.takeDrained_outbound (s : State) : s.takeDrained.outbound = s.outbound := rfl
@[simp] theorem State.takeDrained_wake (s : State) : s.takeDrained.wake = s.wake := rfl
@[simp] theorem State.takeDrained_ready (s : State) : s.takeDrained.ready = s.ready := rfl
@[simp] theorem State.takeDrained_txEnabled (s : State) : s.takeDrained.txEnabled = s.txEnabled := rfl
@[simp] theorem State.takeDrained_wire (s : State) : s.takeDrained.wire = s.wire := rfl
@[simp] theorem State.takeDrained_pos (s : State) : s.takeDrained.pos = s.pos := rfl
@[simp] theorem State.takeDrained_inputs (s : State) : s.takeDrained.inputs = s.inputs := rfl
@[simp] theorem State.takeDrained_grain (s : State) : s.takeDrained.grain = s.grain := rfl
@[simp] theorem State.takeDrained_draws (s : State) : s.takeDrained.draws = s.draws := rfl

/-! ### The fields that the operations with cases leave alone -/

@[simp] theorem State.stopLoop_cfg (s : State) : s.stopLoop.cfg = s.cfg := by unfold State.stopLoop; split <;> rfl
@[simp] theorem State.stopLoop_buf (s : State) : s.stopLoop.buf = s.buf := by unfold State.stopLoop; split <;> rfl
@[simp] theorem State.stopLoop_events (s : State) : s.stopLoop.events = s.events := by unfold State.stopLoop; split <;> rfl
@[simp] theorem State.stopLoop_replies (s : State) : s.stopLoop.replies = s.replies := by unfold State.stopLoop; split <;> rfl
@[simp] theorem State.stopLoop_result (s : State) : s.stopLoop.result = s.result := by unfold State.stopLoop; split <;> rfl
@[simp] theorem State.stopLoop_inbound (s : State) : s.stopLoop.inbound = s.inbound := by unfold State.stopLoop; split <;> rfl
@[simp] theorem State.stopLoop_outbound (s : State) : s.stopLoop.outbound = s.outbound := by unfold State.stopLoop; split <;> rfl
@[simp] theorem State.stopLoop_wake (s : State) : s.stopLoop.wake = s.wake := by unfold State.stopLoop; split <;> rfl
@[simp] theorem State.stopLoop_ready (s : State) : s.stopLoop.ready = s.ready := by unfold State.stopLoop; split <;> rfl
@[simp] theorem State.stopLoop_txEnabled (s : State) : s.stopLoop.txEnabled = s.txEnabled := by unfold State.stopLoop; split <;> rfl
@[simp] theorem State.stopLoop_wire (s : State) : s.stopLoop.wire = s.wire := by unfold State.stopLoop; split <;> rfl
@[simp] theorem State.stopLoop_pos (s : State) : s.stopLoop.pos = s.pos := by unfold State.stopLoop; split <;> rfl
@[simp] theorem State.stopLoop_inputs (s : State) : s.stopLoop.inputs = s.inputs := by unfold State.stopLoop; split <;> rfl
@[simp] theorem State.stopLoop_grain (s : State) : s.stopLoop.grain = s.grain := by unfold State.stopLoop; split <;> rfl
@[simp] theorem State.stopLoop_draws (s : State) : s.stopLoop.draws = s.draws := by unfold State.stopLoop; split <;> rfl

@[simp] theorem State.enqueue_cfg (s : State) (bytes : List Byte) : (s.enqueue bytes).cfg = s.cfg := by unfold State.enqueue; split <;> rfl
@[simp] theorem State.enqueue_buf (s : State) (bytes : List Byte) : (s.enqueue bytes).buf = s.buf := by unfold State.enqueue; split <;> rfl
@[simp] theorem State.enqueue_events (s : State) (bytes : List Byte) : (s.enqueue bytes).events = s.events := by unfold State.enqueue; split <;> rfl
@[simp] theorem State.enqueue_replies (s : State) (bytes : List Byte) : (s.enqueue bytes).replies = s.replies := by unfold State.enqueue; split <;> rfl
@[simp] theorem State.enqueue_phase (s : State) (bytes : List Byte) : (s.enqueue bytes).phase = s.phase := by unfold State.enqueue; split <;> rfl
@[simp] theorem State.enqueue_inbound (s : State) (bytes : List Byte) : (s.enqueue bytes).inbound = s.inbound := by unfold State.enqueue; split <;> rfl
@[simp] theorem State.enqueue_wake (s : State) (bytes : List Byte) : (s.enqueue bytes).wake = s.wake := by unfold State.enqueue; split <;> rfl
@[simp] theorem State.enqueue_ready (s : State) (bytes : List Byte) : (s.enqueue bytes).ready = s.ready := by unfold State.enqueue; split <;> rfl
@[simp] theorem State.enqueue_wire (s : State) (bytes : List Byte) : (s.enqueue bytes).wire = s.wire := by unfold State.enqueue; split <;> rfl
@[simp] theorem State.enqueue_pos (s : State) (bytes : List Byte) : (s.enqueue bytes).pos = s.pos := by unfold State.enqueue; split <;> rfl
@[simp] theorem State.enqueue_inputs (s : State) (bytes : List Byte) : (s.enqueue bytes).inputs = s.inputs := by unfold State.enqueue; split <;> rfl
@[simp] theorem State.enqueue_grain (s : State) (bytes : List Byte) : (s.enqueue bytes).grain = s.grain := by unfold State.enqueue; split <;> rfl
@[simp] theorem State.enqueue_draws (s : State) (bytes : List Byte) : (s.enqueue bytes).draws = s.draws := by unfold State.enqueue; split <;> rfl

@[simp] theorem State.arrive_cfg (s : State) (chunk : List Byte) : (s.arrive chunk).cfg = s.cfg := by unfold State.arrive; split <;> rfl
@[simp] theorem State.arrive_buf (s : State) (chunk : List Byte) : (s.arrive chunk).buf = s.buf := by unfold State.arrive; split <;> rfl
@[simp] theorem State.arrive_events (s : State) (chunk : List Byte) : (s.arrive chunk).events = s.events := by unfold State.arrive; split <;> rfl
@[simp] theorem State.arrive_replies (s : State) (chunk : List Byte) : (s.arrive chunk).replies = s.replies := by unfold State.arrive; split <;> rfl
@[simp] theorem State.arrive_result (s : State) (chunk : List Byte) : (s.arrive chunk).result = s.result := by unfold State.arrive; split <;> rfl
@[simp] theorem State.arrive_phase (s : State) (chunk : List Byte) : (s.arrive chunk).phase = s.phase := by unfold State.arrive; split <;> rfl
@[simp] theorem State.arrive_outbound (s : State) (chunk : List Byte) : (s.arrive chunk).outbound = s.outbound := by unfold State.arrive; split <;> rfl
@[simp] theorem State.arrive_ready (s : State) (chunk : List Byte) : (s.arrive chunk).ready = s.ready := by unfold State.arrive; split <;> rfl
@[simp] theorem State.arrive_txEnabled (s : State) (chunk : List Byte) : (s.arrive chunk).txEnabled = s.txEnabled := by unfold State.arrive; split <;> rfl
@[simp] theorem State.arrive_wire (s : State) (chunk : List Byte) : (s.arrive chunk).wire = s.wire := by unfold State.arrive; split <;> rfl
@[simp] theorem State.arrive_pos (s : State) (chunk : List Byte) : (s.arrive chunk).pos = s.pos := by unfold State.arrive; split <;> rfl
@[simp] theorem State.arrive_inputs (s : State) (chunk : List Byte) : (s.arrive chunk).inputs = s.inputs := by unfold State.arrive; split <;> rfl
@[simp] theorem State.arrive_grain (s : State) (chunk : List Byte) : (s.arrive chunk).grain = s.grain := by unfold State.arrive; split <;> rfl

@[simp] theorem State.feedWire_cfg (s : State) (n : Nat) : (s.feedWire n).cfg = s.cfg := by unfold State.feedWire; split <;> rfl
@[simp] theorem State.feedWire_buf (s : State) (n : Nat) : (s.feedWire n).buf = s.buf := by unfold State.feedWire; split <;> rfl
@[simp] theorem State.feedWire_events (s : State) (n : Nat) : (s.feedWire n).events = s.events := by unfold State.feedWire; split <;> rfl
@[simp] theorem State.feedWire_replies (s : State) (n : Nat) : (s.feedWire n).replies = s.replies := by unfold State.feedWire; split <;> rfl
@[simp] theorem State.feedWire_result (s : State) (n : Nat) : (s.feedWire n).result = s.result := by unfold State.feedWire; split <;> rfl
@[simp] theorem State.feedWire_phase (s : State) (n : Nat) : (s.feedWire n).phase = s.phase := by unfold State.feedWire; split <;> rfl
@[simp] theorem State.feedWire_inbound (s : State) (n : Nat) : (s.feedWire n).inbound = s.inbound := by unfold State.feedWire; split <;> rfl
@[simp] theorem State.feedWire_wake (s : State) (n : Nat) : (s.feedWire n).wake = s.wake := by unfold State.feedWire; split <;> rfl
@[simp] theorem State.feedWire_ready (s : State) (n : Nat) : (s.feedWire n).ready = s.ready := by unfold State.feedWire; split <;> rfl
@[simp] theorem State.feedWire_txEnabled (s : State) (n : Nat) : (s.feedWire n).txEnabled = s.txEnabled := by unfold State.feedWire; split <;> rfl
@[simp] theorem State.feedWire_pos (s : State) (n : Nat) : (s.feedWire n).pos = s.pos := by unfold State.feedWire; split <;> rfl
@[simp] theorem State.feedWire_inputs (s : State) (n : Nat) : (s.feedWire n).inputs = s.inputs := by unfold State.feedWire; split <;> rfl
@[simp] theorem State.feedWire_grain (s : State) (n : Nat) : (s.feedWire n).grain = s.grain := by unfold State.feedWire; split <;> rfl
@[simp] theorem State.feedWire_draws (s : State) (n : Nat) : (s.feedWire n).draws = s.draws := by unfold State.feedWire; split <;> rfl

@[simp] theorem State.arrive_wake (s : State) (chunk : List Byte) : (s.arrive chunk).wake = true := by unfold State.arrive; split <;> rfl

end Sys2Proof.Machine
end

