-- ==== Sys2Proof/Laws/Words.lean ====
section
/-! SUPPORT. Small facts about bytes, big-endian fields, encodings' sizes and the configuration's tables: what each
definition of Machine/Tables.lean, Machine/Operands.lean and Machine/Wire.lean can do, said once. -/

namespace Sys2Proof.Machine

/-! ### Big-endian fields (R40) -/

theorem u16be_toNat (h l : Byte) : (u16be h l).toNat = 256 * h.toNat + l.toNat := by
  have := h.isLt; have := l.isLt
  simp only [u16be, BitVec.toNat_ofNat]; omega

theorem hiByte_toNat (v : Word16) : (hiByte v).toNat = v.toNat / 256 := by
  have := v.isLt
  simp only [hiByte, BitVec.toNat_ofNat]; omega

theorem loByte_toNat (v : Word16) : (loByte v).toNat = v.toNat % 256 := by
  simp only [loByte, BitVec.toNat_ofNat]

@[simp] theorem u16be_hiByte_loByte (v : Word16) : u16be (hiByte v) (loByte v) = v := by
  apply BitVec.eq_of_toNat_eq
  rw [u16be_toNat, hiByte_toNat, loByte_toNat]; omega

@[simp] theorem hiByte_u16be (h l : Byte) : hiByte (u16be h l) = h := by
  have := l.isLt
  apply BitVec.eq_of_toNat_eq
  rw [hiByte_toNat, u16be_toNat]; omega

@[simp] theorem loByte_u16be (h l : Byte) : loByte (u16be h l) = l := by
  have := l.isLt
  apply BitVec.eq_of_toNat_eq
  rw [loByte_toNat, u16be_toNat]; omega

@[simp] theorem beBytes_length (v : Word16) : (beBytes v).length = 2 := rfl

/-! ### Reading at the front -/

@[simp] theorem byteAt_zero (a : Byte) (s : List Byte) : byteAt (a :: s) 0 = a := rfl

@[simp] theorem byteAt_succ (a : Byte) (s : List Byte) (i : Nat) : byteAt (a :: s) (i + 1) = byteAt s i := by
  simp [byteAt]

/-- A byte that is present does not depend on what follows. -/
theorem byteAt_append_left (s x : List Byte) (i : Nat) (h : i < s.length) : byteAt (s ++ x) i = byteAt s i := by
  simp [byteAt, List.getD_eq_getElem?_getD, List.getElem?_append_left h]

theorem memRead2_append_left (s x : List Byte) (a : Nat) (h : a + 1 < s.length) :
    memRead2 (s ++ x) a = memRead2 s a := by
  unfold memRead2
  rw [byteAt_append_left _ _ _ h, byteAt_append_left _ _ _ (by omega)]

theorem declaredLength_append_left (s x : List Byte) (h : 4 ≤ s.length) :
    declaredLength (s ++ x) = declaredLength s := by
  unfold declaredLength; rw [memRead2_append_left _ _ _ (by omega)]

theorem declaredLength_cons (t1 t2 h l : Byte) (rest : List Byte) :
    declaredLength (t1 :: t2 :: h :: l :: rest) = 256 * h.toNat + l.toNat := by
  simp [declaredLength, memRead2, u16be_toNat]

theorem coveredBytes_append_left (s x : List Byte) (L : Nat) (h : L + 4 ≤ s.length) :
    coveredBytes (s ++ x) L = coveredBytes s L := by
  simp [coveredBytes, List.take_append_of_le_length h]

theorem bodyBytes_append_left (s x : List Byte) (L : Nat) (h : L + 4 ≤ s.length) :
    bodyBytes (s ++ x) L = bodyBytes s L := by
  unfold bodyBytes
  rw [List.drop_append_of_le_length (by omega), List.take_append_of_le_length (by simp; omega)]

theorem storedChecksum_append_left (s x : List Byte) (L : Nat) (h : L + 6 ≤ s.length) :
    storedChecksum (s ++ x) L = storedChecksum s L := by
  unfold storedChecksum; rw [memRead2_append_left _ _ _ (by omega)]

theorem frontCtrl_append_left (cfg : Config) (s x : List Byte) (h : 2 ≤ s.length) :
    frontCtrl cfg (s ++ x) = frontCtrl cfg s := by
  match s, h with
  | a :: b :: t, _ => rfl

theorem frontCtrl_short (cfg : Config) (s : List Byte) (h : s.length < 2) : frontCtrl cfg s = none := by
  match s, h with
  | [], _ => rfl
  | [_], _ => rfl

/-! ### Sizes (R64) -/

@[simp] theorem fullHead_length (t1 t2 : Byte) (body : List Byte) :
    (fullHead t1 t2 body).length = body.length + 4 := by
  simp [fullHead]; omega

@[simp] theorem stamp_length (pre : List Byte) : (stamp pre).length = pre.length + 2 := by
  simp [stamp]

@[simp] theorem encodeFull_length (t1 t2 : Byte) (body : List Byte) :
    (encodeFull t1 t2 body).length = body.length + 6 := by
  simp [encodeFull]

@[simp] theorem encodeLinkAck_length (cfg : Config) : (encodeLinkAck cfg).length = 2 := rfl

@[simp] theorem encodeLinkNak_length (cfg : Config) (r : NakReason) : (encodeLinkNak cfg r).length = 2 := rfl

/-! ### The accumulators (R82, R86) -/

theorem ckAccumulate_c1 (a : Acc) (b : Byte) :
    (ckAccumulate a b).c1.toNat = (a.c1.toNat + b.toNat) % 255 := by
  simp only [ckAccumulate, BitVec.toNat_ofNat]; omega

theorem ckAccumulate_c2 (a : Acc) (b : Byte) :
    (ckAccumulate a b).c2.toNat = (a.c2.toNat + (a.c1.toNat + b.toNat) % 255) % 255 := by
  simp only [ckAccumulate, BitVec.toNat_ofNat]; omega

/-- The accumulators stay reduced (R25). -/
theorem ckAccumulate_lt (a : Acc) (b : Byte) :
    (ckAccumulate a b).c1.toNat < 255 ∧ (ckAccumulate a b).c2.toNat < 255 := by
  rw [ckAccumulate_c1, ckAccumulate_c2]; omega

/-- The accumulators of a whole computation are reduced. -/
theorem foldl_ckAccumulate_lt (bytes : List Byte) (a : Acc) (h1 : a.c1.toNat < 255) (h2 : a.c2.toNat < 255) :
    (bytes.foldl ckAccumulate a).c1.toNat < 255 ∧ (bytes.foldl ckAccumulate a).c2.toNat < 255 := by
  induction bytes generalizing a with
  | nil => exact ⟨h1, h2⟩
  | cons b bs ih => exact ih _ (ckAccumulate_lt a b).1 (ckAccumulate_lt a b).2

/-- The value of CK.FINAL (R83). -/
theorem ckFinish_toNat (a : Acc) :
    (ckFinish a).toNat = 256 * (255 - (a.c1.toNat + a.c2.toNat) % 255)
      + (255 - (a.c1.toNat + (255 - (a.c1.toNat + a.c2.toNat) % 255)) % 255) := by
  simp only [ckFinish, BitVec.toNat_ofNat]; omega

/-! ### The NakReason table (R68) -/

theorem mem_allReasons (r : NakReason) : r ∈ allReasons := by cases r <;> decide

/-- What the inverse finds has the code asked for. -/
theorem nakByte_of_nakReasonOf {k : NakCodes} {b : Byte} {r : NakReason} (h : nakReasonOf k b = some r) :
    nakByte k r = b := by
  have := List.find?_some h
  simpa using this

/-- A byte that the inverse does not find is no code. -/
theorem nakReasonOf_eq_none {k : NakCodes} {b : Byte} (h : nakReasonOf k b = none) (r : NakReason) :
    nakByte k r ≠ b := by
  have := List.find?_eq_none.mp h r (mem_allReasons r)
  simpa using this

/-- Distinct codes make the table injective (R11). -/
theorem nakByte_injective {k : NakCodes} (h : (allReasons.map (nakByte k)).Nodup) {r r' : NakReason}
    (e : nakByte k r = nakByte k r') : r = r' :=
  List.inj_on_of_nodup_map h (mem_allReasons r) (mem_allReasons r') e

/-- The inverse finds every reason by its code. -/
theorem nakReasonOf_nakByte {k : NakCodes} (h : (allReasons.map (nakByte k)).Nodup) (r : NakReason) :
    nakReasonOf k (nakByte k r) = some r := by
  cases e : nakReasonOf k (nakByte k r) with
  | none => exact absurd rfl (nakReasonOf_eq_none e r)
  | some r' => rw [nakByte_injective h (nakByte_of_nakReasonOf e)]

/-! ### The constraints of R11 -/

/-- All that `configOk` says, by name. -/
structure ConfigFacts (cfg : Config) : Prop where
  room : cfg.lmax + 6 ≤ cfg.cap
  lmax : cfg.lmax ≤ 65529
  nak : (allReasons.map (nakByte cfg.nakCode)).Nodup
  basicKeys : (cfg.basic.map Prod.fst).Nodup
  dataLinkKeys : (cfg.dataLink.map Prod.fst).Nodup
  intermediateKeys : (cfg.intermediate.map Prod.fst).Nodup
  appAck : (cfg.basic.lookup cfg.opBasicAppAck).map basicClass = some .pureAck
  maxPayloadResp : (cfg.dataLink.lookup cfg.opDlMaxPayloadResp).map dataLinkClass = some .maxPayloadResp
  utcResp : (cfg.intermediate.lookup cfg.opIntUtcResp).map intermediateClass = some .response

theorem configOk_iff (cfg : Config) : configOk cfg = true ↔ ConfigFacts cfg := by
  simp only [configOk, Bool.and_eq_true, decide_eq_true_eq]
  constructor
  · rintro ⟨⟨⟨⟨⟨⟨⟨⟨a, b⟩, c⟩, d⟩, e⟩, f⟩, g⟩, h⟩, i⟩
    exact ⟨a, b, c, d, e, f, g, h, i⟩
  · rintro ⟨a, b, c, d, e, f, g, h, i⟩
    exact ⟨⟨⟨⟨⟨⟨⟨⟨a, b⟩, c⟩, d⟩, e⟩, f⟩, g⟩, h⟩, i⟩

/-- The name that a key's parameter gives an entry keeps the entry's class: a look-up answers the table's class. -/
theorem basicOp_class {cfg : Config} (hc : configOk cfg = true) (op : Byte) :
    (basicOp cfg op).map basicClass = (cfg.basic.lookup op).map basicClass := by
  have ha := ((configOk_iff cfg).1 hc).appAck
  unfold basicOp basicName
  cases h : cfg.basic.lookup op with
  | none => rfl
  | some n =>
    by_cases h1 : op = cfg.opBasicAppAck
    · rw [← h1, h] at ha
      simpa [h1, show basicClass .appAck = .pureAck from rfl] using ha.symm
    · cases n <;> simp [h1, basicClass]

/-- As `basicOp_class`, in `OPTAB_INTERMEDIATE`. -/
theorem intermediateOp_class {cfg : Config} (hc : configOk cfg = true) (op1 op2 : Byte) :
    (intermediateOp cfg op1 op2).map intermediateClass = (cfg.intermediate.lookup (op1, op2)).map intermediateClass := by
  have ha := ((configOk_iff cfg).1 hc).utcResp
  unfold intermediateOp intermediateName
  cases h : cfg.intermediate.lookup (op1, op2) with
  | none => rfl
  | some n =>
    by_cases h1 : (op1, op2) = cfg.opIntUtcResp
    · rw [← h1, h] at ha
      simpa [h1, show intermediateClass .utcResp = .response from rfl] using ha.symm
    · cases n <;> simp [h1, intermediateClass]

/-- The key `OP_BASIC_APP_ACK` is the application acknowledgement's (R71, R125). -/
theorem basicOp_appAck_iff {cfg : Config} (hc : configOk cfg = true) (op : Byte) :
    basicOp cfg op = some .appAck ↔ op = cfg.opBasicAppAck := by
  have ha := ((configOk_iff cfg).1 hc).appAck
  unfold basicOp basicName
  constructor
  · intro h
    by_contra h1
    cases hl : cfg.basic.lookup op with
    | none => simp [hl] at h
    | some n => cases n <;> simp [hl, h1] at h
  · rintro rfl
    cases hl : cfg.basic.lookup cfg.opBasicAppAck with
    | none => simp [hl] at ha
    | some n => simp

/-- The key `OP_INT_UTC_RESP` is the UTC-time response's (R71, R139). -/
theorem intermediateOp_utcResp_iff {cfg : Config} (hc : configOk cfg = true) (op1 op2 : Byte) :
    intermediateOp cfg op1 op2 = some .utcResp ↔ (op1, op2) = cfg.opIntUtcResp := by
  have ha := ((configOk_iff cfg).1 hc).utcResp
  unfold intermediateOp intermediateName
  constructor
  · intro h
    by_contra h1
    cases hl : cfg.intermediate.lookup (op1, op2) with
    | none => simp [hl] at h
    | some n => cases n <;> simp [hl, h1] at h
  · intro h1
    rw [← h1] at ha
    cases hl : cfg.intermediate.lookup (op1, op2) with
    | none => simp [hl] at ha
    | some n => simp [h1]

/-! ### DEC.CTRL (R94) -/

/-- All that DEC.CTRL can answer. -/
theorem decodeCtrl_cases (cfg : Config) (b0 b1 : Byte) :
    (b0 = ackT1 ∧ b1 = cfg.ackT2 ∧ decodeCtrl cfg b0 b1 = some .ack) ∨
    (∃ r, b0 = nakT1 ∧ b1 = nakByte cfg.nakCode r ∧ nakReasonOf cfg.nakCode b1 = some r ∧
      decodeCtrl cfg b0 b1 = some (.nak r)) ∨
    (¬ (b0 = ackT1 ∧ b1 = cfg.ackT2) ∧ ¬ (b0 = nakT1 ∧ ∃ r, b1 = nakByte cfg.nakCode r) ∧
      decodeCtrl cfg b0 b1 = none) := by
  unfold decodeCtrl
  by_cases h : b0 = ackT1 ∧ b1 = cfg.ackT2
  · exact .inl ⟨h.1, h.2, by rw [if_pos h]⟩
  · rw [if_neg h]
    by_cases h2 : b0 = nakT1
    · rw [if_pos h2]
      cases e : nakReasonOf cfg.nakCode b1 with
      | some r => exact .inr (.inl ⟨r, h2, (nakByte_of_nakReasonOf e).symm, rfl, by simp⟩)
      | none =>
        refine .inr (.inr ⟨h, ?_, by simp⟩)
        rintro ⟨-, r, hr⟩
        exact nakReasonOf_eq_none e r hr.symm
    · rw [if_neg h2]
      exact .inr (.inr ⟨h, fun h' => h2 h'.1, rfl⟩)

end Sys2Proof.Machine
end

