-- ==== Sys2Proof/Laws/Ops.lean ====
section
/-! SUPPORT. For each shared operation of the machine, one lemma that says once everything it can do; and that the
operations keep the memory's bound. -/

namespace Sys2Proof.Machine

/-! ### Refusing a bad configuration (R11) -/

theorem State.configured_of_ok {s : State} (h : configOk s.cfg = true) (out : Host.Outcome State Fault Refusal) :
    s.configured out = out := by
  simp [State.configured, h]

/-- An operation under `configured` that answers a next state ran under a good configuration. -/
theorem State.configured_next {s t : State} {out : Host.Outcome State Fault Refusal}
    (h : s.configured out = .next t) : configOk s.cfg = true ∧ out = .next t := by
  unfold State.configured at h
  split at h
  · exact ⟨‹_›, h⟩
  · cases h

/-! ### Overflow (R102) -/

/-- What `makeRoom` does: nothing when the bytes fit, else the recovery that discards the excess. -/
theorem State.makeRoom_cases (s : State) (n : Nat) :
    (s.buf.length + n ≤ s.cfg.cap ∧ s.makeRoom n = s) ∨
    (s.cfg.cap < s.buf.length + n ∧
      s.makeRoom n = s.recover (.loss (s.buf.length + n - s.cfg.cap)) (s.buf.length + n - s.cfg.cap)) := by
  unfold State.makeRoom
  split
  · exact .inr ⟨‹_›, rfl⟩
  · exact .inl ⟨by omega, rfl⟩

/-- After `makeRoom` a chunk of at most `C` bytes fits. -/
theorem State.makeRoom_fits (s : State) (n : Nat) (h : n ≤ s.cfg.cap) :
    (s.makeRoom n).buf.length + n ≤ s.cfg.cap := by
  obtain ⟨h1, h2⟩ | ⟨h1, h2⟩ := s.makeRoom_cases n <;> rw [h2]
  · exact h1
  · simp; omega

/-! ### The loop's step -/

/-- The relation between the states before and after the Assembler worked: only the buffer, the events and the cursor
differ, and the events only grew. -/
structure AssemblerFrame (s t : State) : Prop where
  cfg : t.cfg = s.cfg
  replies : t.replies = s.replies
  result : t.result = s.result
  phase : t.phase = s.phase
  inbound : t.inbound = s.inbound
  outbound : t.outbound = s.outbound
  wake : t.wake = s.wake
  ready : t.ready = s.ready
  txEnabled : t.txEnabled = s.txEnabled
  wire : t.wire = s.wire
  inputs : t.inputs = s.inputs
  grain : t.grain = s.grain
  draws : t.draws = s.draws
  grew : ∃ more, t.events = s.events ++ more

theorem AssemblerFrame.refl (s : State) : AssemblerFrame s s :=
  ⟨rfl, rfl, rfl, rfl, rfl, rfl, rfl, rfl, rfl, rfl, rfl, rfl, rfl, [], by simp⟩

theorem AssemblerFrame.trans {s t u : State} (h : AssemblerFrame s t) (k : AssemblerFrame t u) : AssemblerFrame s u := by
  obtain ⟨m, hm⟩ := h.grew
  obtain ⟨m', hm'⟩ := k.grew
  exact ⟨k.cfg.trans h.cfg, k.replies.trans h.replies, k.result.trans h.result, k.phase.trans h.phase,
    k.inbound.trans h.inbound, k.outbound.trans h.outbound, k.wake.trans h.wake, k.ready.trans h.ready,
    k.txEnabled.trans h.txEnabled, k.wire.trans h.wire, k.inputs.trans h.inputs, k.grain.trans h.grain,
    k.draws.trans h.draws, m ++ m', by rw [hm', hm, List.append_assoc]⟩

theorem State.recover_frame (s : State) (e : Event) (n : Nat) : AssemblerFrame s (s.recover e n) :=
  ⟨rfl, rfl, rfl, rfl, rfl, rfl, rfl, rfl, rfl, rfl, rfl, rfl, rfl, [e], rfl⟩

theorem State.append_frame (s : State) (chunk : List Byte) : AssemblerFrame s (s.append chunk) :=
  ⟨rfl, rfl, rfl, rfl, rfl, rfl, rfl, rfl, rfl, rfl, rfl, rfl, rfl, [], by simp⟩

theorem State.makeRoom_frame (s : State) (n : Nat) : AssemblerFrame s (s.makeRoom n) := by
  obtain ⟨-, h⟩ | ⟨-, h⟩ := s.makeRoom_cases n <;> rw [h]
  · exact .refl s
  · exact s.recover_frame _ _

/-- How many bytes an emitting step drops and what it reports (R105, R106, R108, R110, R111). -/
theorem State.fire_cases (s : State) (a : AsmStep) (h : a.stops = false) :
    (a = .ctrlAck ∧ s.fire a = s.recover (.frame (.ctrl .ack)) 2) ∨
    (∃ r, a = .ctrlNak r ∧ s.fire a = s.recover (.frame (.ctrl (.nak r))) 2) ∨
    (a = .resyncLen ∧ s.fire a = s.recover (.resync .length) 1) ∨
    (a = .resyncCk ∧ s.fire a = s.recover (.resync .checksum) 1) ∨
    (a = .emitFull ∧ s.fire a = s.recover (.frame (candidateFrame s.buf)) (declaredLength s.buf + 6)) := by
  cases a with
  | ctrlAck => exact .inl ⟨rfl, rfl⟩
  | ctrlNak r => exact .inr (.inl ⟨r, rfl, rfl⟩)
  | waitShort => cases h
  | resyncLen => exact .inr (.inr (.inl ⟨rfl, rfl⟩))
  | waitBody => cases h
  | resyncCk => exact .inr (.inr (.inr (.inl ⟨rfl, rfl⟩)))
  | emitFull => exact .inr (.inr (.inr (.inr ⟨rfl, rfl⟩)))

/-- A control frame at the front needs two bytes. -/
theorem two_le_of_frontCtrl {cfg : Config} {buf : Memory} {c : Ctrl} (h : frontCtrl cfg buf = some c) :
    2 ≤ buf.length := by
  rcases Nat.lt_or_ge buf.length 2 with h' | h'
  · rw [frontCtrl_short cfg buf h'] at h; cases h
  · exact h'

/-- The conditions under which each step is selected (R101, R105 to R111). -/
theorem asmSelect_cases (cfg : Config) (buf : Memory) :
    (frontCtrl cfg buf = some .ack ∧ asmSelect cfg buf = .ctrlAck) ∨
    (∃ r, frontCtrl cfg buf = some (.nak r) ∧ asmSelect cfg buf = .ctrlNak r) ∨
    (frontCtrl cfg buf = none ∧ buf.length < 6 ∧ asmSelect cfg buf = .waitShort) ∨
    (frontCtrl cfg buf = none ∧ 6 ≤ buf.length ∧
      (cfg.lmax < declaredLength buf ∨ cfg.cap < declaredLength buf + 6) ∧ asmSelect cfg buf = .resyncLen) ∨
    (frontCtrl cfg buf = none ∧ 6 ≤ buf.length ∧ declaredLength buf ≤ cfg.lmax ∧ declaredLength buf + 6 ≤ cfg.cap ∧
      buf.length < declaredLength buf + 6 ∧ asmSelect cfg buf = .waitBody) ∨
    (frontCtrl cfg buf = none ∧ declaredLength buf ≤ cfg.lmax ∧ declaredLength buf + 6 ≤ cfg.cap ∧
      declaredLength buf + 6 ≤ buf.length ∧
      checksum (coveredBytes buf (declaredLength buf)) ≠ storedChecksum buf (declaredLength buf) ∧
      asmSelect cfg buf = .resyncCk) ∨
    (frontCtrl cfg buf = none ∧ declaredLength buf ≤ cfg.lmax ∧ declaredLength buf + 6 ≤ cfg.cap ∧
      declaredLength buf + 6 ≤ buf.length ∧
      checksum (coveredBytes buf (declaredLength buf)) = storedChecksum buf (declaredLength buf) ∧
      asmSelect cfg buf = .emitFull) := by
  unfold asmSelect
  cases hc : frontCtrl cfg buf with
  | some c => cases c <;> simp
  | none =>
    by_cases h6 : buf.length < 6
    · simp [h6]
    · by_cases hl : cfg.lmax < declaredLength buf ∨ cfg.cap < declaredLength buf + 6
      · simp [h6, hl]; omega
      · have h6' : 6 ≤ buf.length := by omega
        have hl' : declaredLength buf ≤ cfg.lmax ∧ declaredLength buf + 6 ≤ cfg.cap := by omega
        by_cases hw : buf.length < declaredLength buf + 6
        · simp [h6, h6', hl, hl', hw]
        · have hw' : declaredLength buf + 6 ≤ buf.length := by omega
          by_cases hk : checksum (coveredBytes buf (declaredLength buf)) = storedChecksum buf (declaredLength buf)
          · simp [h6, hl, hl', hw, hw', hk]
          · simp [h6, hl, hl', hw, hw', hk]

/-- An iteration that does not stop is one recovery or acceptance: it reports one event and drops between one byte and all
of them (R112). -/
theorem State.fire_progress (s : State) (h : (asmSelect s.cfg s.buf).stops = false) :
    ∃ e n, 1 ≤ n ∧ n ≤ s.buf.length ∧ s.fire (asmSelect s.cfg s.buf) = s.recover e n := by
  obtain ⟨hc, ha⟩ | ⟨r, hc, ha⟩ | ⟨-, -, ha⟩ | ⟨-, h6, -, ha⟩ | ⟨-, -, -, -, -, ha⟩ | ⟨-, -, -, hl, -, ha⟩ |
    ⟨-, -, -, hl, -, ha⟩ := asmSelect_cases s.cfg s.buf <;> rw [ha] at h ⊢
  · exact ⟨_, 2, by omega, two_le_of_frontCtrl hc, rfl⟩
  · exact ⟨_, 2, by omega, two_le_of_frontCtrl hc, rfl⟩
  · cases h
  · exact ⟨_, 1, by omega, by omega, rfl⟩
  · cases h
  · exact ⟨_, 1, by omega, by omega, rfl⟩
  · exact ⟨_, declaredLength s.buf + 6, by omega, hl, rfl⟩

theorem State.fire_frame (s : State) (a : AsmStep) : AssemblerFrame s (s.fire a) := by
  cases a <;> first | exact .refl s | exact s.recover_frame _ _

/-! ### The loop (R101, R112, R113) -/

theorem asmLoop_frame (n : Nat) (s : State) : AssemblerFrame s (asmLoop n s) := by
  induction n generalizing s with
  | zero => exact .refl s
  | succ n ih =>
    unfold asmLoop
    split
    · exact .refl s
    · exact (s.fire_frame _).trans (ih _)

@[simp] theorem asmLoop_cfg (n : Nat) (s : State) : (asmLoop n s).cfg = s.cfg := (asmLoop_frame n s).cfg

/-- With more iterations than bytes the loop ends at a fixed point. -/
theorem asmLoop_fixed (n : Nat) (s : State) (h : s.buf.length < n) :
    loopFixed s.cfg (asmLoop n s).buf = true := by
  induction n generalizing s with
  | zero => omega
  | succ n ih =>
    unfold asmLoop
    split
    · assumption
    · rename_i hs
      obtain ⟨e, k, h1, h2, hf⟩ := s.fire_progress (by simpa using hs)
      rw [hf]
      have := ih (s.recover e k) (by simp; omega)
      simpa using this

/-- The loop drops bytes from the front only and the cursor counts them. -/
theorem asmLoop_drops (n : Nat) (s : State) :
    ∃ k, k ≤ s.buf.length ∧ (asmLoop n s).buf = s.buf.drop k ∧ (asmLoop n s).pos = s.pos + k := by
  induction n generalizing s with
  | zero => exact ⟨0, by omega, by simp [asmLoop], rfl⟩
  | succ n ih =>
    unfold asmLoop
    split
    · exact ⟨0, by omega, by simp, rfl⟩
    · rename_i hs
      obtain ⟨e, m, h1, h2, hf⟩ := s.fire_progress (by simpa using hs)
      obtain ⟨k, hk, hb, hp⟩ := ih (s.recover e m)
      rw [hf]
      refine ⟨m + k, ?_, ?_, ?_⟩
      · simp at hk; omega
      · rw [hb]; simp
      · rw [hp]; simp; omega

/-! ### A piece and a chunk (R101 to R104) -/

theorem State.ingestPiece_frame (s : State) (piece : List Byte) : AssemblerFrame s (s.ingestPiece piece) :=
  ((s.makeRoom_frame _).trans ((s.makeRoom _).append_frame _)).trans (asmLoop_frame _ _)

@[simp] theorem State.ingestPiece_cfg (s : State) (piece : List Byte) : (s.ingestPiece piece).cfg = s.cfg :=
  (s.ingestPiece_frame piece).cfg

theorem ingestPieces_frame (n : Nat) (chunk : List Byte) (s : State) : AssemblerFrame s (ingestPieces n chunk s) := by
  induction n generalizing chunk s with
  | zero => exact s.ingestPiece_frame chunk
  | succ n ih =>
    unfold ingestPieces
    split
    · exact s.ingestPiece_frame chunk
    · exact (s.ingestPiece_frame _).trans (ih _ _)

theorem State.ingestChunk_frame (s : State) (chunk : List Byte) : AssemblerFrame s (s.ingestChunk chunk) :=
  ingestPieces_frame _ _ _

/-- A piece is the overflow check, the append and the loop with iterations enough. -/
theorem State.ingestPiece_eq (s : State) (piece : List Byte) :
    ∃ n, ((s.makeRoom piece.length).append piece).buf.length < n ∧
      s.ingestPiece piece = asmLoop n ((s.makeRoom piece.length).append piece) :=
  ⟨_, Nat.lt_succ_self _, rfl⟩

/-- After a piece the buffer is at a fixed point of the loop. -/
theorem State.ingestPiece_fixed (s : State) (piece : List Byte) :
    loopFixed s.cfg (s.ingestPiece piece).buf = true := by
  obtain ⟨n, hn, he⟩ := s.ingestPiece_eq piece
  have := asmLoop_fixed n _ hn
  rw [he]
  simpa [(s.makeRoom_frame piece.length).cfg] using this

/-- A piece enters whole at the back; bytes leave at the front only, and the cursor counts them. -/
theorem State.ingestPiece_drops (s : State) (piece : List Byte) (h : piece.length ≤ s.cfg.cap) :
    ∃ k, k ≤ (s.buf ++ piece).length ∧ (s.ingestPiece piece).buf = (s.buf ++ piece).drop k ∧
      (s.ingestPiece piece).pos = s.pos + k := by
  obtain ⟨n, -, he⟩ := s.ingestPiece_eq piece
  obtain ⟨k, hk, hb, hp⟩ := asmLoop_drops n ((s.makeRoom piece.length).append piece)
  rw [he, hb, hp]
  obtain ⟨h1, h2⟩ | ⟨h1, h2⟩ := s.makeRoom_cases piece.length
  · rw [h2] at hk ⊢
    exact ⟨k, hk, rfl, rfl⟩
  · rw [h2] at hk ⊢
    simp only [State.append_buf, State.recover_buf, List.length_append, List.length_drop] at hk
    refine ⟨s.buf.length + piece.length - s.cfg.cap + k, ?_, ?_, ?_⟩
    · simp only [List.length_append]; omega
    · simp only [State.append_buf, State.recover_buf]
      have := List.drop_append_of_le_length (l₂ := piece)
        (show s.buf.length + piece.length - s.cfg.cap ≤ s.buf.length by omega)
      rw [← List.drop_drop, this]
    · simp only [State.append_pos, State.recover_pos]; omega

/-- At a fixed point under a good configuration at least one byte of room is free (R113). -/
theorem fixed_length_le {cfg : Config} {buf : Memory} (h : loopFixed cfg buf = true) :
    buf.length ≤ cfg.lmax + 5 := by
  unfold loopFixed at h
  obtain ⟨-, ha⟩ | ⟨r, -, ha⟩ | ⟨-, h6, ha⟩ | ⟨-, -, -, ha⟩ | ⟨-, -, hl, -, hw, ha⟩ | ⟨-, -, -, -, -, ha⟩ |
    ⟨-, -, -, -, -, ha⟩ := asmSelect_cases cfg buf <;> rw [ha] at h <;> first | omega | cases h

/-! ### Memory keeps its bound (R20) -/

theorem Memory.wf_iff (cap : Nat) (m : Memory) : m.wf cap = true ↔ m.length ≤ cap := by simp [Memory.wf]

theorem State.dropFront_wf (s : State) (n cap : Nat) (h : s.buf.wf cap = true) : (s.dropFront n).buf.wf cap = true := by
  rw [Memory.wf_iff] at *; simp; omega

theorem State.recover_wf (s : State) (e : Event) (n cap : Nat) (h : s.buf.wf cap = true) :
    (s.recover e n).buf.wf cap = true := by
  rw [Memory.wf_iff] at *; simp; omega

theorem State.clearBuffer_wf (s : State) (cap : Nat) : s.clearBuffer.buf.wf cap = true := by
  simp [Memory.wf]

theorem State.append_wf (s : State) (chunk : List Byte) (cap : Nat) (h : s.buf.length + chunk.length ≤ cap) :
    (s.append chunk).buf.wf cap = true := by
  rw [Memory.wf_iff]; simpa using h

theorem State.fire_wf (s : State) (a : AsmStep) (cap : Nat) (h : s.buf.wf cap = true) : (s.fire a).buf.wf cap = true := by
  cases a <;> first | exact h | exact s.recover_wf _ _ cap h

theorem asmLoop_wf (n : Nat) (s : State) (cap : Nat) (h : s.buf.wf cap = true) : (asmLoop n s).buf.wf cap = true := by
  obtain ⟨k, -, hb, -⟩ := asmLoop_drops n s
  rw [Memory.wf_iff] at *
  rw [hb]; simp; omega

/-! ### The Transport Adapter -/

/-- What TX.ENQUEUE can do (R154, R155). -/
theorem State.enqueue_cases (s : State) (bytes : List Byte) :
    (s.ready = false ∧ s.enqueue bytes = { s with result := .tx .notReady }) ∨
    (s.ready = true ∧ s.cfg.qoutCap - s.outbound.length < bytes.length ∧
      s.enqueue bytes = { s with result := .tx .resourceExhausted }) ∨
    (s.ready = true ∧ bytes.length ≤ s.cfg.qoutCap - s.outbound.length ∧
      s.enqueue bytes = { s with outbound := s.outbound ++ bytes, txEnabled := true, result := .tx .ok }) := by
  unfold State.enqueue txAnswer
  cases hr : s.ready with
  | false => simp
  | true =>
    by_cases h : s.cfg.qoutCap - s.outbound.length < bytes.length
    · simp [h]
    · exact .inr (.inr ⟨rfl, by omega, by simp [h]⟩)

/-- A masked list keeps the order and invents nothing. -/
theorem keepFrom_sublist (keep : Nat → Bool) (i : Nat) (l : List Byte) : (keepFrom keep i l).Sublist l := by
  induction l generalizing i with
  | nil => exact List.Sublist.slnil
  | cons b bs ih =>
    unfold keepFrom
    split
    · exact (ih _).cons_cons b
    · exact (ih _).cons b

/-- What an arrival can do (R151, U9). -/
theorem State.arrive_cases (s : State) (chunk : List Byte) :
    (s.inbound.length + chunk.length ≤ s.cfg.qinCap ∧
      s.arrive chunk = { s with inbound := s.inbound ++ chunk, wake := true }) ∨
    (s.cfg.qinCap < s.inbound.length + chunk.length ∧ ∃ q, q.Sublist (s.inbound ++ chunk) ∧ q.length ≤ s.cfg.qinCap ∧
      s.arrive chunk = { s with inbound := q, wake := true, draws := s.draws + 1 }) := by
  unfold State.arrive
  split
  · exact .inl ⟨‹_›, rfl⟩
  · refine .inr ⟨by omega, _, ?_, ?_, rfl⟩
    · exact (List.take_sublist _ _).trans (keepFrom_sublist _ _ _)
    · simp

/-- A drain of a queue that holds something takes at least one byte and at most all of them (R153). -/
theorem drainSize_bounds (grain len : Nat) (h : 1 ≤ len) : 1 ≤ drainSize grain len ∧ drainSize grain len ≤ len := by
  unfold drainSize
  split <;> omega

/-- The chunk taken and what stays are the queue. -/
theorem State.drained_append (s : State) : s.drained ++ s.takeDrained.inbound = s.inbound := by
  simp [State.drained]

end Sys2Proof.Machine
end

