-- ==== Sys2Proof/Laws/Loop.lean ====
section
/-! SUPPORT. What the Assembler loop reads and keeps: a candidate's fields, the selection that later bytes cannot change, the
number of iterations that does not matter, and the worker's position that the loop never reads. -/

namespace Sys2Proof.Machine

/-! ### A candidate and its fields (R65) -/

/-- The fields of a complete candidate, whatever follows it. -/
theorem candidate_fields (t1 t2 h l kh kl : Byte) (body rest : List Byte) (hl : body.length = 256 * h.toNat + l.toNat) :
    declaredLength (t1 :: t2 :: h :: l :: (body ++ kh :: kl :: rest)) = body.length ∧
    coveredBytes (t1 :: t2 :: h :: l :: (body ++ kh :: kl :: rest)) body.length = t1 :: t2 :: h :: l :: body ∧
    (storedChecksum (t1 :: t2 :: h :: l :: (body ++ kh :: kl :: rest)) body.length).toNat
      = 256 * kh.toNat + kl.toNat ∧
    bodyBytes (t1 :: t2 :: h :: l :: (body ++ kh :: kl :: rest)) body.length = body := by
  refine ⟨?_, ?_, ?_, ?_⟩
  · rw [declaredLength_cons, hl]
  · simp [coveredBytes]
  · have e : storedChecksum (t1 :: t2 :: h :: l :: (body ++ kh :: kl :: rest)) body.length = u16be kh kl := by
      simp [storedChecksum, memRead2, byteAt, List.getD_eq_getElem?_getD]
    rw [e, u16be_toNat]
  · simp [bodyBytes]

/-! ### Later bytes do not change a selection that does not stop (R114) -/

theorem asmSelect_append (cfg : Config) (buf x : List Byte) (h : (asmSelect cfg buf).stops = false) :
    asmSelect cfg (buf ++ x) = asmSelect cfg buf := by
  obtain ⟨a, ha⟩ | ⟨r, a, ha⟩ | ⟨a, b, ha⟩ | ⟨a, b, c, ha⟩ | ⟨a, b, c, c', d, ha⟩ | ⟨a, b, b', c, d, ha⟩ |
    ⟨a, b, b', c, d, ha⟩ := asmSelect_cases cfg buf <;> rw [ha] at h ⊢
  · unfold asmSelect; rw [frontCtrl_append_left _ _ _ (two_le_of_frontCtrl a), a]
  · unfold asmSelect; rw [frontCtrl_append_left _ _ _ (two_le_of_frontCtrl a), a]
  · cases h
  · unfold asmSelect
    rw [frontCtrl_append_left _ _ _ (by omega), a]
    simp only [List.length_append]
    rw [if_neg (by omega), declaredLength_append_left _ _ (by omega), if_pos c]
  · cases h
  · unfold asmSelect
    rw [frontCtrl_append_left _ _ _ (by omega), a]
    simp only [List.length_append]
    rw [if_neg (by omega), declaredLength_append_left _ _ (by omega), if_neg (by omega), if_neg (by omega),
      coveredBytes_append_left _ _ _ (by omega), storedChecksum_append_left _ _ _ (by omega), if_pos d]
  · unfold asmSelect
    rw [frontCtrl_append_left _ _ _ (by omega), a]
    simp only [List.length_append]
    rw [if_neg (by omega), declaredLength_append_left _ _ (by omega), if_neg (by omega), if_neg (by omega),
      coveredBytes_append_left _ _ _ (by omega), storedChecksum_append_left _ _ _ (by omega), if_neg (by simpa using d)]

theorem State.recover_append (s : State) (x : List Byte) (e : Event) (n : Nat) (h : n ≤ s.buf.length) :
    (s.append x).recover e n = (s.recover e n).append x := by
  simp [State.append, State.recover, State.emit, State.dropFront, List.drop_append_of_le_length h]

/-- Firing the selected step and appending bytes commute. -/
theorem State.fire_append (s : State) (x : List Byte) (h : (asmSelect s.cfg s.buf).stops = false) :
    (s.append x).fire (asmSelect s.cfg s.buf) = (s.fire (asmSelect s.cfg s.buf)).append x := by
  obtain ⟨a, ha⟩ | ⟨r, a, ha⟩ | ⟨a, b, ha⟩ | ⟨a, b, c, ha⟩ | ⟨a, b, c, c', d, ha⟩ | ⟨a, b, b', c, d, ha⟩ |
    ⟨a, b, b', c, d, ha⟩ := asmSelect_cases s.cfg s.buf <;> rw [ha] at h ⊢
  · exact s.recover_append _ _ _ (two_le_of_frontCtrl a)
  · exact s.recover_append _ _ _ (two_le_of_frontCtrl a)
  · cases h
  · exact s.recover_append _ _ _ (by omega)
  · cases h
  · exact s.recover_append _ _ _ (by omega)
  · have e : (s.append x).fire .emitFull
        = (s.append x).recover (.frame (candidateFrame s.buf)) (declaredLength s.buf + 6) := by
      simp only [State.fire, State.fireEmitFull, State.append_buf, State.accept, State.recover, candidateFrame]
      rw [declaredLength_append_left _ _ (by omega), bodyBytes_append_left _ _ _ (by omega),
        byteAt_append_left _ _ _ (by omega), byteAt_append_left _ _ _ (by omega)]
    rw [e]
    exact s.recover_append _ _ _ (by omega)

/-! ### The number of iterations does not matter once it is large enough (R112) -/

theorem asmLoop_enough (n m : Nat) (s : State) (hn : s.buf.length < n) (hm : s.buf.length < m) :
    asmLoop n s = asmLoop m s := by
  induction n generalizing m s with
  | zero => omega
  | succ n ih =>
    obtain ⟨m, rfl⟩ : ∃ k, m = k + 1 := ⟨m - 1, by omega⟩
    unfold asmLoop
    split
    · rfl
    · rename_i hs
      obtain ⟨e, k, h1, h2, hf⟩ := s.fire_progress (by simpa using hs)
      rw [hf]
      apply ih <;> simp <;> omega

/-! ### The worker's position is not read (R21) -/

theorem State.fire_phase (p : Phase) (s : State) (a : AsmStep) :
    ({ s with phase := p } : State).fire a = { s.fire a with phase := p } := by
  cases a <;> rfl

theorem State.makeRoom_phase (p : Phase) (s : State) (n : Nat) :
    ({ s with phase := p } : State).makeRoom n = { s.makeRoom n with phase := p } := by
  unfold State.makeRoom
  show (if s.cfg.cap < s.buf.length + n then _ else _) = _
  split <;> rfl

theorem asmLoop_phase (p : Phase) (n : Nat) (s : State) :
    asmLoop n { s with phase := p } = { asmLoop n s with phase := p } := by
  induction n generalizing s with
  | zero => rfl
  | succ n ih =>
    unfold asmLoop
    show (if (asmSelect s.cfg s.buf).stops = true then _
      else asmLoop n (({ s with phase := p } : State).fire (asmSelect s.cfg s.buf))) = _
    split
    · rfl
    · rw [State.fire_phase, ih]

theorem State.ingestPiece_phase (p : Phase) (s : State) (piece : List Byte) :
    ({ s with phase := p } : State).ingestPiece piece = { s.ingestPiece piece with phase := p } := by
  simp only [State.ingestPiece, State.makeRoom_phase]
  exact asmLoop_phase p (((s.makeRoom piece.length).append piece).buf.length + 1) ((s.makeRoom piece.length).append piece)

end Sys2Proof.Machine
end

