-- ==== Sys2Proof/Laws/PerInstr.lean ====
section
/-! SUPPORT. Statements about each instruction as syntax, one lemma for each constructor. -/

namespace Sys2Proof.Laws

/-- The bytes of an instruction that has a bit pattern are 2 where it is a control frame and `L + 6` where it is a full frame
with a body of `L` bytes (R61, R64); a port operation has none (R71). -/
def EncodedSize.Statement (i : Instr) : Prop :=
  ∀ (cfg : Config) (bytes : List Byte), encode cfg i = some bytes →
    (∃ c, frameOf cfg i = some (.ctrl c) ∧ bytes.length = 2) ∨
    ∃ t1 t2 body, frameOf cfg i = some (.full t1 t2 body) ∧ bytes.length = body.length + 6

/-- The bytes of every frame value have that size. -/
theorem EncodedSize.of_frames (i : Instr) : EncodedSize.Statement i := by
  intro cfg bytes h
  unfold encode at h
  cases hf : frameOf cfg i with
  | none => rw [hf] at h; cases h
  | some fr =>
    rw [hf] at h
    cases h
    rcases fr with (_ | r) | ⟨t1, t2, body⟩
    · exact .inl ⟨_, rfl, rfl⟩
    · exact .inl ⟨_, rfl, rfl⟩
    · exact .inr ⟨t1, t2, body, rfl, Machine.encodeFull_length t1 t2 body⟩

theorem EncodedSize.linkAck : EncodedSize.Statement .linkAck := EncodedSize.of_frames _
theorem EncodedSize.linkNak (reason : NakReason) : EncodedSize.Statement (.linkNak reason) := EncodedSize.of_frames _
theorem EncodedSize.basicAppAck (op : Byte) (args : List Byte) : EncodedSize.Statement (.basicAppAck op args) :=
  EncodedSize.of_frames _
theorem EncodedSize.basicAppNak (op : Byte) (args : List Byte) : EncodedSize.Statement (.basicAppNak op args) :=
  EncodedSize.of_frames _
theorem EncodedSize.basicOperStateResp (op : Byte) (args : List Byte) : EncodedSize.Statement (.basicOperStateResp op args) :=
  EncodedSize.of_frames _
theorem EncodedSize.basicPureackExtra (op : Byte) (args : List Byte) : EncodedSize.Statement (.basicPureackExtra op args) :=
  EncodedSize.of_frames _
theorem EncodedSize.basicCustomerOverride (op : Byte) (args : List Byte) : EncodedSize.Statement (.basicCustomerOverride op args) :=
  EncodedSize.of_frames _
theorem EncodedSize.basicResponseExtra (op : Byte) (args : List Byte) : EncodedSize.Statement (.basicResponseExtra op args) :=
  EncodedSize.of_frames _
theorem EncodedSize.basicUnknown (body : List Byte) : EncodedSize.Statement (.basicUnknown body) :=
  EncodedSize.of_frames _
theorem EncodedSize.dlMaxPayloadReq (op : Byte) (args : List Byte) : EncodedSize.Statement (.dlMaxPayloadReq op args) :=
  EncodedSize.of_frames _
theorem EncodedSize.dlMaxPayloadResp (op : Byte) (args : List Byte) : EncodedSize.Statement (.dlMaxPayloadResp op args) :=
  EncodedSize.of_frames _
theorem EncodedSize.dlAckExtra (op : Byte) (args : List Byte) : EncodedSize.Statement (.dlAckExtra op args) :=
  EncodedSize.of_frames _
theorem EncodedSize.dlUnknown (body : List Byte) : EncodedSize.Statement (.dlUnknown body) := EncodedSize.of_frames _
theorem EncodedSize.intGetUtcReq (op1 op2 : Byte) : EncodedSize.Statement (.intGetUtcReq op1 op2) :=
  EncodedSize.of_frames _
theorem EncodedSize.intGetUtcReqBadlen (op1 op2 : Byte) (payload : List Byte) : EncodedSize.Statement (.intGetUtcReqBadlen op1 op2 payload) :=
  EncodedSize.of_frames _
theorem EncodedSize.intUtcResp (op1 op2 : Byte) (payload : List Byte) : EncodedSize.Statement (.intUtcResp op1 op2 payload) :=
  EncodedSize.of_frames _
theorem EncodedSize.intAckExtra (op1 op2 : Byte) (payload : List Byte) : EncodedSize.Statement (.intAckExtra op1 op2 payload) :=
  EncodedSize.of_frames _
theorem EncodedSize.intUnknown (body : List Byte) : EncodedSize.Statement (.intUnknown body) := EncodedSize.of_frames _
theorem EncodedSize.unknownCategory (type1 type2 : Byte) (body : List Byte) : EncodedSize.Statement (.unknownCategory type1 type2 body) :=
  EncodedSize.of_frames _
theorem EncodedSize.checksum (bytes : List Byte) : EncodedSize.Statement (.checksum bytes) := EncodedSize.of_frames _
theorem EncodedSize.ckInit : EncodedSize.Statement .ckInit := EncodedSize.of_frames _
theorem EncodedSize.ckByte (c1 c2 : Byte) (b : Byte) : EncodedSize.Statement (.ckByte c1 c2 b) :=
  EncodedSize.of_frames _
theorem EncodedSize.ckFinal (c1 c2 : Byte) : EncodedSize.Statement (.ckFinal c1 c2) := EncodedSize.of_frames _
theorem EncodedSize.encLinkAck : EncodedSize.Statement .encLinkAck := EncodedSize.of_frames _
theorem EncodedSize.encLinkNak (reason : NakReason) : EncodedSize.Statement (.encLinkNak reason) :=
  EncodedSize.of_frames _
theorem EncodedSize.encFull (type1 type2 : Byte) (body : List Byte) : EncodedSize.Statement (.encFull type1 type2 body) :=
  EncodedSize.of_frames _
theorem EncodedSize.decCtrl (b0 b1 : Byte) : EncodedSize.Statement (.decCtrl b0 b1) := EncodedSize.of_frames _
theorem EncodedSize.decFull (bytes : List Byte) : EncodedSize.Statement (.decFull bytes) := EncodedSize.of_frames _
theorem EncodedSize.ingest (chunk : List Byte) : EncodedSize.Statement (.ingest chunk) := EncodedSize.of_frames _
theorem EncodedSize.asmOverflow (chunk : List Byte) : EncodedSize.Statement (.asmOverflow chunk) :=
  EncodedSize.of_frames _
theorem EncodedSize.asmAppend (chunk : List Byte) : EncodedSize.Statement (.asmAppend chunk) := EncodedSize.of_frames _
theorem EncodedSize.asmCtrlAck : EncodedSize.Statement .asmCtrlAck := EncodedSize.of_frames _
theorem EncodedSize.asmCtrlNak : EncodedSize.Statement .asmCtrlNak := EncodedSize.of_frames _
theorem EncodedSize.asmWaitShort : EncodedSize.Statement .asmWaitShort := EncodedSize.of_frames _
theorem EncodedSize.asmResyncLen : EncodedSize.Statement .asmResyncLen := EncodedSize.of_frames _
theorem EncodedSize.asmWaitBody : EncodedSize.Statement .asmWaitBody := EncodedSize.of_frames _
theorem EncodedSize.asmResyncCk : EncodedSize.Statement .asmResyncCk := EncodedSize.of_frames _
theorem EncodedSize.asmEmitFull : EncodedSize.Statement .asmEmitFull := EncodedSize.of_frames _
theorem EncodedSize.bufferReset : EncodedSize.Statement .bufferReset := EncodedSize.of_frames _
theorem EncodedSize.dispatch (fr : Frame) : EncodedSize.Statement (.dispatch fr) := EncodedSize.of_frames _
theorem EncodedSize.rxNotify (chunk : List Byte) : EncodedSize.Statement (.rxNotify chunk) := EncodedSize.of_frames _
theorem EncodedSize.workerLoop : EncodedSize.Statement .workerLoop := EncodedSize.of_frames _
theorem EncodedSize.txEnqueue (bytes : List Byte) : EncodedSize.Statement (.txEnqueue bytes) := EncodedSize.of_frames _
theorem EncodedSize.txLinkAck : EncodedSize.Statement .txLinkAck := EncodedSize.of_frames _
theorem EncodedSize.txLinkNak (reason : NakReason) : EncodedSize.Statement (.txLinkNak reason) :=
  EncodedSize.of_frames _
theorem EncodedSize.txBasicAppAck (echo : Byte) : EncodedSize.Statement (.txBasicAppAck echo) := EncodedSize.of_frames _
theorem EncodedSize.txDlMaxPayloadResp : EncodedSize.Statement .txDlMaxPayloadResp := EncodedSize.of_frames _
theorem EncodedSize.txIntUtcResp : EncodedSize.Statement .txIntUtcResp := EncodedSize.of_frames _

end Sys2Proof.Laws
end

