-- ==== Sys2Proof/Laws/Worker.lean ====
section
/-! SUPPORT. What a small step of the worker is and what handing replies and events over can change. -/

namespace Sys2Proof.Machine

/-! ### The step with no input listed -/

theorem step_worker {s : State} (hc : configOk s.cfg = true) (hi : s.inputs = []) :
    step s = match s.workerTurn with
      | .run i t => exec i t
      | .move t => .next t
      | .refuse r => .refused r := by
  rw [step, if_pos hc, show s.nextAction = s.workerTurn by rw [State.nextAction, hi]] <;> cases s.workerTurn <;> rfl

/-- The instruction that the front of the buffer selects stops the loop or fires. -/
theorem exec_selected (s : State) (hc : configOk s.cfg = true) :
    exec (asmInstr (asmSelect s.cfg s.buf)) s =
      .next (if (asmSelect s.cfg s.buf).stops then s.stopLoop else s.fire (asmSelect s.cfg s.buf)) := by
  cases h : asmSelect s.cfg s.buf <;>
    simp [asmInstr, exec, execAsmCtrlAck, execAsmCtrlNak, execAsmWaitShort, execAsmResyncLen, execAsmWaitBody,
      execAsmResyncCk, execAsmEmitFull, h, State.configured_of_ok hc, AsmStep.stops, State.fire]

/-! ### Between operations -/

/-- What `busy` being false says. -/
theorem State.not_busy {s : State} (h : s.busy = false) : s.inIngest = false ∧ s.events = [] ∧ s.replies = [] := by
  simp only [State.busy, Bool.or_eq_false_iff] at h
  exact ⟨h.1.1, by simpa using h.1.2, by simpa using h.2⟩

/-- Outside `ingest` the worker is at the top of its loop or waits. -/
theorem State.phase_of_not_inIngest {s : State} (h : s.inIngest = false) : s.phase = .top ∨ s.phase = .waiting := by
  cases hp : s.phase <;> simp [State.inIngest, hp] at h ⊢

/-- A drain of a queue that holds something is not empty (R153). -/
theorem State.drained_ne_nil {s : State} (h : s.inbound ≠ []) : s.drained ≠ [] := by
  have h1 : 1 ≤ s.inbound.length := List.length_pos_iff.mpr h
  obtain ⟨h2, h3⟩ := drainSize_bounds s.grain _ h1
  intro h4
  have h5 := congrArg List.length h4
  rw [State.drained, List.length_take, Nat.min_eq_left h3] at h5
  simp at h5
  omega

/-! ### TX.ENQUEUE reads neither the replies nor the events -/

theorem State.enqueue_withReplies (r : List (List Byte)) (s : State) (b : List Byte) :
    ({ s with replies := r } : State).enqueue b = { s.enqueue b with replies := r } := by
  unfold State.enqueue
  show (match txAnswer s.cfg.qoutCap s.ready s.outbound b with
    | .ok => _ | .resourceExhausted => _ | .notReady => _) = _
  cases txAnswer s.cfg.qoutCap s.ready s.outbound b <;> rfl

theorem State.enqueue_withEvents (r : List Event) (s : State) (b : List Byte) :
    ({ s with events := r } : State).enqueue b = { s.enqueue b with events := r } := by
  unfold State.enqueue
  show (match txAnswer s.cfg.qoutCap s.ready s.outbound b with
    | .ok => _ | .resourceExhausted => _ | .notReady => _) = _
  cases txAnswer s.cfg.qoutCap s.ready s.outbound b <;> rfl

/-- What a state before and after offering frames have in common. -/
structure OfferFrame (s t : State) : Prop where
  cfg : t.cfg = s.cfg
  buf : t.buf = s.buf
  events : t.events = s.events
  replies : t.replies = s.replies
  phase : t.phase = s.phase
  inbound : t.inbound = s.inbound
  wake : t.wake = s.wake
  ready : t.ready = s.ready
  wire : t.wire = s.wire
  pos : t.pos = s.pos
  inputs : t.inputs = s.inputs
  grain : t.grain = s.grain
  draws : t.draws = s.draws

theorem OfferFrame.refl (s : State) : OfferFrame s s :=
  ⟨rfl, rfl, rfl, rfl, rfl, rfl, rfl, rfl, rfl, rfl, rfl, rfl, rfl⟩

theorem OfferFrame.trans {s t u : State} (h : OfferFrame s t) (k : OfferFrame t u) : OfferFrame s u :=
  ⟨k.cfg.trans h.cfg, k.buf.trans h.buf, k.events.trans h.events, k.replies.trans h.replies, k.phase.trans h.phase,
    k.inbound.trans h.inbound, k.wake.trans h.wake, k.ready.trans h.ready, k.wire.trans h.wire, k.pos.trans h.pos,
    k.inputs.trans h.inputs, k.grain.trans h.grain, k.draws.trans h.draws⟩

theorem State.enqueue_frame (s : State) (b : List Byte) : OfferFrame s (s.enqueue b) := by
  obtain ⟨-, h⟩ | ⟨-, -, h⟩ | ⟨-, -, h⟩ := s.enqueue_cases b <;> rw [h] <;>
    exact ⟨rfl, rfl, rfl, rfl, rfl, rfl, rfl, rfl, rfl, rfl, rfl, rfl, rfl⟩

theorem State.enqueueAll_frame (bs : List (List Byte)) (s : State) : OfferFrame s (bs.foldl State.enqueue s) := by
  induction bs generalizing s with
  | nil => exact .refl s
  | cons b bs ih => exact (s.enqueue_frame b).trans (ih _)

theorem State.deliver_frame (s : State) (e : Event) : OfferFrame s (s.deliver e) := by
  cases e with
  | frame fr => exact State.enqueueAll_frame _ _
  | loss d => exact .refl s
  | resync c => exact .refl s

end Sys2Proof.Machine
end

