-- ==== Sys2Proof/Tests/Slice0.lean ====
section
/-! SUPPORT. The model's own tests. Expected results come from spec/95_test_vectors.md (the vector's name stands in the test's
docstring or name), from the examples inside the rules, or from the formulas of R81 to R83 worked by hand; then one witness
for each statement that has hypotheses. -/

namespace Sys2Proof.Tests

open Sys2Proof.Machine Sys2Proof.Statements

set_option maxRecDepth 20000

/-! ### Helpers -/

/-- A context under REF with given buffer contents, inside the Assembler loop. -/
def ref (buf : List Byte) : State := { State.reset with buf := buf, phase := .loop [] }

/-- The same under SMALL. -/
def small (buf : List Byte) : State := { State.fresh smallConfig with buf := buf, phase := .loop [] }

/-- The same outside `ingest`. -/
def idle (cfg : Config) (buf : List Byte) : State := { State.fresh cfg with buf := buf }

/-- REF with the extra entries of R70 filled in. -/
def extraConfig : Config :=
  { refConfig with
    basic := refConfig.basic ++ [(0x01, .pureAckExtra), (0x02, .responseExtra)]
    dataLink := refConfig.dataLink ++ [(0x01, .pureAckExtra), (0x02, .responseExtra)]
    intermediate := refConfig.intermediate ++ [((0x01, 0x00), .pureAckExtra), ((0x01, 0x80), .responseExtra)] }

/-- REF with the application acknowledgement at the key 0x04, which R11 (5) allows. -/
def ackConfig : Config := { refConfig with opBasicAppAck := 0x04 }

/-- REF with more zero bytes than a frame can carry, which R28 allows. -/
def longUtcConfig : Config := { refConfig with utcN := 65534 }

/-- The next state of an outcome. -/
def nextOf : Out → Option State
  | .next t => some t
  | .fault _ => none
  | .refused _ => none

/-- The events and the buffer after an outcome. -/
def seen (o : Out) : Option (List Event × List Byte) := (nextOf o).map fun t => (t.events, t.buf)

/-- The replies after an outcome. -/
def replied (o : Out) : Option (List (List Byte)) := (nextOf o).map fun t => t.replies

/-- The value an outcome answers. -/
def answered (o : Out) : Option Value := (nextOf o).map fun t => t.result

/-- What DISPATCH of the frame with given bytes replies under REF. -/
def txOf (bytes : List Byte) : Option (List (List Byte)) :=
  match decodeFrame refConfig bytes with
  | .ok fr => replied (exec (.dispatch fr) State.reset)
  | .error _ => none

/-! ### The configurations (R11, R12) -/

theorem test_ref_meets_r11 : configOk refConfig = true := by decide
theorem test_small_meets_r11 : configOk smallConfig = true := by decide
theorem test_extra_meets_r11 : configOk extraConfig = true := by decide
theorem test_small_cap_refused : configOk { refConfig with cap := 37 } = false := by decide
theorem test_repeated_nak_code_refused :
    configOk { refConfig with nakCode := { refNakCodes with timeout := 0x06 } } = false := by decide
theorem test_unlisted_app_ack_refused : configOk { refConfig with opBasicAppAck := 0x05 } = false := by decide
theorem test_repeated_key_refused : configOk { refConfig with basic := (0x11, .appAck) :: refConfig.basic } = false := by
  decide
/-- R11 (5) and R28: both are configurations of a context. -/
theorem test_named_keys_meet_r11 : configOk ackConfig = true ∧ configOk longUtcConfig = true := by decide
theorem test_reset_memory_wf : State.reset.buf.wf State.reset.cfg.cap = true := by decide

/-! ### WellFormed: an ill-formed term for each check -/

theorem test_wf_basic_opcode :
    (Instr.basicAppAck 0x04 []).wf refConfig = false ∧ (Instr.basicAppNak 0x03 []).wf refConfig = false ∧
    (Instr.basicOperStateResp 0x11 []).wf refConfig = false ∧ (Instr.basicPureackExtra 0x03 []).wf extraConfig = false ∧
    (Instr.basicCustomerOverride 0x13 []).wf refConfig = false ∧
    (Instr.basicResponseExtra 0x01 []).wf extraConfig = false ∧ (Instr.basicUnknown [0x03]).wf refConfig = false := by
  decide
theorem test_wf_dataLink_opcode :
    (Instr.dlMaxPayloadReq 0x19 []).wf refConfig = false ∧ (Instr.dlMaxPayloadResp 0x18 []).wf refConfig = false ∧
    (Instr.dlAckExtra 0x18 []).wf extraConfig = false ∧ (Instr.dlUnknown [0x18, 0x00]).wf refConfig = false := by decide
theorem test_wf_intermediate_key :
    (Instr.intGetUtcReq 0x02 0x80).wf refConfig = false ∧ (Instr.intGetUtcReqBadlen 0x02 0x80 [0]).wf refConfig = false ∧
    (Instr.intGetUtcReqBadlen 0x02 0x00 []).wf refConfig = false ∧ (Instr.intUtcResp 0x02 0x00 []).wf refConfig = false ∧
    (Instr.intAckExtra 0x02 0x80 []).wf extraConfig = false ∧
    (Instr.intUnknown [0x02, 0x00]).wf refConfig = false := by decide
theorem test_wf_category_and_control :
    (Instr.unknownCategory 0x08 0x03 []).wf refConfig = false ∧ (Instr.unknownCategory 0x06 0x00 []).wf refConfig = false ∧
    (Instr.unknownCategory 0x15 0x07 []).wf refConfig = false := by decide
theorem test_wf_accumulators :
    (Instr.ckByte 255 0 0).wf refConfig = false ∧ (Instr.ckByte 0 255 0).wf refConfig = false ∧
    (Instr.ckFinal 255 0).wf refConfig = false ∧ (Instr.ckFinal 0 255).wf refConfig = false := by decide
theorem test_wf_piece : (Instr.asmOverflow (List.replicate 17 0)).wf smallConfig = false ∧
    (Instr.asmAppend (List.replicate 17 0)).wf smallConfig = false := by decide
theorem test_wf_long_utc : Instr.txIntUtcResp.wf longUtcConfig = false ∧ encode longUtcConfig .txIntUtcResp = none := by decide
theorem test_wf_nak_sent : (Instr.txLinkNak .checksumError).wf refConfig = false := by decide
theorem test_wf_long_one_opcode (args : List Byte) (h : 65535 ≤ args.length) :
    (Instr.basicAppAck 0x03 args).wf refConfig = false ∧ (Instr.basicAppNak 0x04 args).wf refConfig = false ∧
    (Instr.basicOperStateResp 0x13 args).wf refConfig = false ∧
    (Instr.basicPureackExtra 0x01 args).wf extraConfig = false ∧
    (Instr.basicCustomerOverride 0x11 args).wf refConfig = false ∧
    (Instr.basicResponseExtra 0x02 args).wf extraConfig = false ∧
    (Instr.dlMaxPayloadReq 0x18 args).wf refConfig = false ∧ (Instr.dlMaxPayloadResp 0x19 args).wf refConfig = false ∧
    (Instr.dlAckExtra 0x01 args).wf extraConfig = false := by
  have h' : ¬ args.length + 1 ≤ maxBody := by unfold maxBody; omega
  simp [Instr.wf, h']
theorem test_wf_long_pair (p : List Byte) (h : 65534 ≤ p.length) :
    (Instr.intGetUtcReqBadlen 0x02 0x00 p).wf refConfig = false ∧ (Instr.intUtcResp 0x02 0x80 p).wf refConfig = false ∧
    (Instr.intAckExtra 0x01 0x00 p).wf extraConfig = false := by
  have h' : ¬ p.length + 2 ≤ maxBody := by unfold maxBody; omega
  simp [Instr.wf, h']
theorem test_wf_long_body (body : List Byte) (h : 65536 ≤ body.length) :
    (Instr.basicUnknown body).wf refConfig = false ∧ (Instr.dlUnknown body).wf refConfig = false ∧
    (Instr.intUnknown body).wf refConfig = false ∧ (Instr.unknownCategory 0x08 0x04 body).wf refConfig = false ∧
    (Instr.encFull 0x08 0x01 body).wf refConfig = false ∧
    (Instr.dispatch (.full 0x08 0x01 body)).wf refConfig = false := by
  have h' : ¬ body.length ≤ maxBody := by unfold maxBody; omega
  simp [Instr.wf, Frame.wf, h']

/-! ### Decoding: words written out from the spec's encodings -/

/-- R61; A5, A6. -/
theorem test_decode_control :
    decode refConfig [0x06, 0x00] = .ok .linkAck ∧ decode refConfig [0x15, 0x00] = .ok (.linkNak .noReason) ∧
    decode refConfig [0x15, 0x07] = .ok (.linkNak .requestNotSupported) := by decide
/-- DS1, DS2, DS3, DS4. -/
theorem test_decode_basic :
    decode refConfig [0x08, 0x01, 0x00, 0x02, 0x03, 0x00, 0x06, 0x41] = .ok (.basicAppAck 0x03 [0x00]) ∧
    decode refConfig [0x08, 0x01, 0x00, 0x02, 0x04, 0x01, 0x01, 0x44] = .ok (.basicAppNak 0x04 [0x01]) ∧
    decode refConfig [0x08, 0x01, 0x00, 0x02, 0x13, 0x00, 0xD5, 0x61] = .ok (.basicOperStateResp 0x13 [0x00]) ∧
    decode refConfig [0x08, 0x01, 0x00, 0x02, 0x11, 0x01, 0xD9, 0x5E] = .ok (.basicCustomerOverride 0x11 [0x01]) := by
  decide
/-- R71: BASIC.APP_ACK is the key OP_BASIC_APP_ACK, and a key listed under its name elsewhere is not. -/
theorem test_decode_app_ack_key :
    decode ackConfig [0x08, 0x01, 0x00, 0x02, 0x04, 0x01, 0x01, 0x44] = .ok (.basicAppAck 0x04 [0x01]) ∧
    decode ackConfig [0x08, 0x01, 0x00, 0x02, 0x03, 0x00, 0x06, 0x41] = .ok (.basicPureackExtra 0x03 [0x00]) := by decide
/-- R71: INT.UTC_RESP is the key OP_INT_UTC_RESP. -/
theorem test_decode_utc_resp_key :
    decode { extraConfig with opIntUtcResp := (0x01, 0x80) } [0x08, 0x02, 0x00, 0x02, 0x01, 0x80, 0x05, 0xC2]
      = .ok (.intUtcResp 0x01 0x80 []) := by decide
/-- DS5, DS5b, DS5c. -/
theorem test_decode_basic_edges :
    decode refConfig [0x08, 0x01, 0x00, 0x02, 0x7F, 0x00, 0x90, 0x3A] = .ok (.basicUnknown [0x7F, 0x00]) ∧
    decode refConfig [0x08, 0x01, 0x00, 0x00, 0x7E, 0xCD] = .ok (.basicUnknown []) ∧
    decode refConfig [0x08, 0x01, 0x00, 0x01, 0x03, 0xC1, 0x86] = .ok (.basicAppAck 0x03 []) := by decide
/-- The extra entries of R70; the checksums by the formulas of R81 to R83. -/
theorem test_decode_extras :
    decode extraConfig [0x08, 0x01, 0x00, 0x02, 0x01, 0x00, 0x0C, 0x3D] = .ok (.basicPureackExtra 0x01 [0x00]) ∧
    decode extraConfig [0x08, 0x01, 0x00, 0x02, 0x02, 0x00, 0x09, 0x3F] = .ok (.basicResponseExtra 0x02 [0x00]) ∧
    decode extraConfig [0x08, 0x03, 0x00, 0x02, 0x01, 0x00, 0xFF, 0x47] = .ok (.dlAckExtra 0x01 [0x00]) ∧
    decode extraConfig [0x08, 0x03, 0x00, 0x01, 0x02, 0xB9, 0x8D] = .ok (.dlAckExtra 0x02 []) ∧
    decode extraConfig [0x08, 0x02, 0x00, 0x03, 0x01, 0x00, 0x05, 0x3F, 0x03] = .ok (.intAckExtra 0x01 0x00 [0x05]) ∧
    decode extraConfig [0x08, 0x02, 0x00, 0x02, 0x01, 0x80, 0x05, 0xC2] = .ok (.intAckExtra 0x01 0x80 []) := by decide
/-- DS6, DS7, DS8. -/
theorem test_decode_dataLink :
    decode refConfig [0x08, 0x03, 0x00, 0x02, 0x18, 0x00, 0xBA, 0x75] = .ok (.dlMaxPayloadReq 0x18 [0x00]) ∧
    decode refConfig [0x08, 0x03, 0x00, 0x02, 0x19, 0x05, 0xAD, 0x7C] = .ok (.dlMaxPayloadResp 0x19 [0x05]) ∧
    decode refConfig [0x08, 0x03, 0x00, 0x02, 0x7F, 0x00, 0x84, 0x44] = .ok (.dlUnknown [0x7F, 0x00]) := by decide
/-- DS9, DS10, DS11. -/
theorem test_decode_intermediate :
    decode refConfig [0x08, 0x02, 0x00, 0x02, 0x02, 0x00, 0x03, 0x44] = .ok (.intGetUtcReq 0x02 0x00) ∧
    decode refConfig [0x08, 0x02, 0x00, 0x03, 0x02, 0x00, 0x55, 0x9A, 0x56]
      = .ok (.intGetUtcReqBadlen 0x02 0x00 [0x55]) ∧
    decode refConfig [0x08, 0x02, 0x00, 0x09, 0x02, 0x80, 0, 0, 0, 0, 0, 0, 0, 0x24, 0x9B]
      = .ok (.intUtcResp 0x02 0x80 [0, 0, 0, 0, 0, 0, 0]) := by decide
/-- DS12, DS13, DS14. -/
theorem test_decode_intermediate_unknown :
    decode refConfig [0x08, 0x02, 0x00, 0x02, 0x7F, 0x7F, 0x8B, 0xBE] = .ok (.intUnknown [0x7F, 0x7F]) ∧
    decode refConfig [0x08, 0x02, 0x00, 0x02, 0x02, 0x01, 0x01, 0x45] = .ok (.intUnknown [0x02, 0x01]) ∧
    decode refConfig [0x08, 0x02, 0x00, 0x01, 0x02, 0xBE, 0x89] = .ok (.intUnknown [0x02]) := by decide
/-- DS15, DS16. -/
theorem test_decode_unknown_category :
    decode refConfig [0x08, 0x04, 0x00, 0x02, 0x01, 0x00, 0xF9, 0x4C] = .ok (.unknownCategory 0x08 0x04 [0x01, 0x00]) ∧
    decode refConfig [0x06, 0x01, 0x00, 0x02, 0x03, 0x00, 0x14, 0x35]
      = .ok (.unknownCategory 0x06 0x01 [0x03, 0x00]) := by decide
/-- Refused by name: bytes behind a control frame, too short, a wrong length, a wrong checksum (A11). -/
theorem test_decode_refusals :
    decode refConfig [0x06, 0x00, 0x08] = .error .overlong ∧ decode refConfig [0x15, 0x08] = .error .tooShort ∧
    decode refConfig [0x08, 0x01, 0x00, 0x03, 0x03, 0x00, 0x06, 0x41] = .error .lengthMismatch ∧
    decode refConfig [0x08, 0x02, 0x00, 0x02, 0x02, 0x00, 0x03, 0x45] = .error .checksum := by decide
/-- W1, W2, K14, K16, K18: the templates of R73. -/
theorem test_encode_templates :
    encode refConfig .txLinkAck = some [0x06, 0x00] ∧
    encode refConfig (.txLinkNak .unsupportedMessageType) = some [0x15, 0x06] ∧
    encode refConfig (.txBasicAppAck 0x11) = some [0x08, 0x01, 0x00, 0x02, 0x03, 0x11, 0xE3, 0x52] ∧
    encode refConfig .txDlMaxPayloadResp = some [0x08, 0x03, 0x00, 0x02, 0x19, 0x02, 0xB3, 0x79] ∧
    encode refConfig .txIntUtcResp
      = some [0x08, 0x02, 0x00, 0x09, 0x02, 0x80, 0, 0, 0, 0, 0, 0, 0, 0x24, 0x9B] := by decide
/-- Table words: the first byte is the most significant one (R61), a full frame's checksum is stamped (log 20). -/
theorem test_table_words :
    decodeTableWord 16 0x0600 = some .linkAck ∧ decodeTableWord 16 0x1505 = some (.linkNak .timeout) ∧
    decodeTableWord 48 0x080100020300 = some (.basicAppAck 0x03 [0x00]) ∧
    decodeTableWord 48 0x080100040300 = some (.basicAppAck 0x03 [0x00, 0x00, 0x00]) ∧
    decodeTableWord 48 0x080200020200 = some (.intGetUtcReq 0x02 0x00) ∧
    decodeTableWord 48 0x080200030200 = some (.intGetUtcReqBadlen 0x02 0x00 [0x00]) ∧
    decodeTableWord 16 0x0601 = none := by decide

/-! ### Checksum Engine -/

/-- K1, K4. -/
theorem test_checksum :
    answered (exec (.checksum []) State.reset) = some (.word 0x55FF) ∧
    answered (exec (.checksum [0x08, 0x01, 0x00, 0x02, 0x03, 0x00]) State.reset) = some (.word 0x0641) := by decide
/-- K8, K9, K10: the modulus is 255, and the order matters. -/
theorem test_checksum_wrap :
    answered (exec (.checksum [0x55]) State.reset) = some (.word 0xFFFF) ∧
    answered (exec (.checksum [0x01, 0x02]) State.reset) = some (.word 0xF859) ∧
    answered (exec (.checksum [0x02, 0x01]) State.reset) = some (.word 0xF75A) := by decide
/-- R81. -/
theorem test_ckInit : answered (exec .ckInit State.reset) = some (.acc 170 0) := by decide
/-- The examples of R82. -/
theorem test_ckByte : answered (exec (.ckByte 170 0 0x08) State.reset) = some (.acc 178 178) ∧
    answered (exec (.ckByte 178 178 0x01) State.reset) = some (.acc 179 102) := by decide
/-- K23: the sum 509 is reduced, not wrapped. -/
theorem test_ckByte_wide : answered (exec (.ckByte 254 0 0xFF) State.reset) = some (.acc 254 254) := by decide
/-- The example of R83. -/
theorem test_ckFinal : answered (exec (.ckFinal 184 65) State.reset) = some (.word 0x0641) := by decide

/-! ### Wire Message Model -/

/-- W1. -/
theorem test_encLinkAck : answered (exec .encLinkAck State.reset) = some (.bytes [0x06, 0x00]) := by decide
/-- W2. -/
theorem test_encLinkNak : answered (exec (.encLinkNak .noReason) State.reset) = some (.bytes [0x15, 0x00]) ∧
    answered (exec (.encLinkNak .requestNotSupported) State.reset) = some (.bytes [0x15, 0x07]) := by decide
/-- W3, W9. -/
theorem test_encFull :
    answered (exec (.encFull 0x08 0x01 [0x03, 0x00]) State.reset)
      = some (.bytes [0x08, 0x01, 0x00, 0x02, 0x03, 0x00, 0x06, 0x41]) ∧
    answered (exec (.encFull 0x08 0x01 [0x03]) State.reset)
      = some (.bytes [0x08, 0x01, 0x00, 0x01, 0x03, 0xC1, 0x86]) := by decide
/-- W8: the high byte of the length comes first, and its checksum. -/
theorem test_encFull_long :
    (encodeFull 0x08 0x01 (0x03 :: List.replicate 255 0)).take 6 = [0x08, 0x01, 0x01, 0x00, 0x03, 0x00] ∧
    (encodeFull 0x08 0x01 (0x03 :: List.replicate 255 0)).drop 260 = [0xC0, 0x87] := by decide
/-- The examples of R94. -/
theorem test_decCtrl :
    answered (exec (.decCtrl 0x15 0x03) State.reset) = some (.ctrl (some (.nak .checksumError))) ∧
    answered (exec (.decCtrl 0x15 0x08) State.reset) = some (.ctrl none) ∧
    answered (exec (.decCtrl 0x06 0x01) State.reset) = some (.ctrl none) := by decide
/-- W6, W10. -/
theorem test_decFull :
    answered (exec (.decFull [0x08, 0x01, 0x00, 0x02, 0x03, 0x00, 0x06, 0x41]) State.reset)
      = some (.full (.full 0x08 0x01 [0x03, 0x00])) ∧
    answered (exec (.decFull [0x08, 0x01, 0x00, 0x01, 0x03, 0xC1, 0x86]) State.reset)
      = some (.full (.full 0x08 0x01 [0x03])) := by decide

/-! ### Frame Assembler -/

/-- A16: one byte is lost, five resynchronizations, a frame, an ACK. -/
theorem test_ingest_overflow :
    seen (exec (.ingest [0x08, 0x01, 0x00, 0x02, 0x03, 0x00, 0x06, 0x41, 0x06, 0x00, 0x15])
      (idle smallConfig [0x08, 0x01, 0x00, 0x0A, 0x01, 0x02]))
      = some ([.loss 1, .resync .length, .resync .length, .resync .length, .resync .length, .resync .length,
          .frame (.full 0x08 0x01 [0x03, 0x00]), .frame (.ctrl .ack)], [0x15]) := by decide
/-- A15: a chunk of 20 bytes under a capacity of 16, twelve resynchronizations and no loss. -/
theorem test_ingest_pieces :
    seen (exec (.ingest [0xA1, 0xA2, 0xA3, 0xA4, 0xA5, 0xA6, 0xA7, 0xA8, 0xA9, 0xAA, 0xAB, 0xAC,
        0x08, 0x01, 0x00, 0x02, 0x03, 0x00, 0x06, 0x41]) (idle smallConfig []))
      = some (List.replicate 12 (.resync .length) ++ [.frame (.full 0x08 0x01 [0x03, 0x00])], []) := by decide
/-- The example of R102. -/
theorem test_asmOverflow :
    seen (exec (.asmOverflow (List.replicate 12 0)) (small [0x08, 0x01, 0x00, 0x0A, 0x01]))
      = some ([.loss 1], [0x01, 0x00, 0x0A, 0x01]) := by decide
/-- R102: `fill + n = C` is no overflow. -/
theorem test_asmOverflow_exact :
    seen (exec (.asmOverflow (List.replicate 11 0)) (small [0x08, 0x01, 0x00, 0x0A, 0x01]))
      = some ([], [0x08, 0x01, 0x00, 0x0A, 0x01]) := by decide
/-- The example of R104. -/
theorem test_asmAppend :
    seen (exec (.asmAppend [0x02, 0x03, 0x00, 0x06]) (ref [0x08, 0x01, 0x00]))
      = some ([], [0x08, 0x01, 0x00, 0x02, 0x03, 0x00, 0x06]) := by decide
/-- The example of R105. -/
theorem test_asmCtrlAck :
    seen (exec .asmCtrlAck (ref [0x06, 0x00, 0x08])) = some ([.frame (.ctrl .ack)], [0x08]) := by decide
/-- The examples of R106. -/
theorem test_asmCtrlNak :
    seen (exec .asmCtrlNak (ref [0x15, 0x03])) = some ([.frame (.ctrl (.nak .checksumError))], []) ∧
    seen (exec .asmCtrlNak (ref [0x15, 0x08])) = some ([], [0x15, 0x08]) := by decide
/-- The example of R107: the loop stops, the bytes stay. -/
theorem test_asmWaitShort :
    exec .asmWaitShort (ref [0x08, 0x01, 0x00]) = .next { ref [0x08, 0x01, 0x00] with phase := .top } := by rfl
/-- A9: `L = LMAX + 1`. -/
theorem test_asmResyncLen :
    seen (exec .asmResyncLen (ref [0x08, 0x01, 0x00, 0x21, 0x00, 0x00]))
      = some ([.resync .length], [0x01, 0x00, 0x21, 0x00, 0x00]) := by decide
/-- A10: `L = LMAX` waits. -/
theorem test_asmWaitBody :
    exec .asmWaitBody (ref [0x08, 0x01, 0x00, 0x20, 0x00, 0x00])
      = .next { ref [0x08, 0x01, 0x00, 0x20, 0x00, 0x00] with phase := .top } := by rfl
/-- The example of R110. -/
theorem test_asmResyncCk :
    seen (exec .asmResyncCk (ref [0x08, 0x02, 0x00, 0x02, 0x02, 0x00, 0x03, 0x45]))
      = some ([.resync .checksum], [0x02, 0x00, 0x02, 0x02, 0x00, 0x03, 0x45]) := by decide
/-- The example of R111. -/
theorem test_asmEmitFull :
    seen (exec .asmEmitFull (ref [0x08, 0x03, 0x00, 0x02, 0x18, 0x00, 0xBA, 0x75, 0x06, 0x00]))
      = some ([.frame (.full 0x08 0x03 [0x18, 0x00])], [0x06, 0x00]) := by decide
/-- A19. -/
theorem test_bufferReset :
    seen (exec .bufferReset (idle refConfig [0x08, 0x01, 0x00, 0x20, 0x00, 0x00])) = some ([], []) := by decide

/-! ### Message Dispatcher -/

/-- DS1, DS2, DS3, DS7, DS11, DS5c: one ACK. -/
theorem test_dispatch_ack :
    replied (exec (.basicAppAck 0x03 [0x00]) State.reset) = some [[0x06, 0x00]] ∧
    replied (exec (.basicAppNak 0x04 [0x01]) State.reset) = some [[0x06, 0x00]] ∧
    replied (exec (.basicOperStateResp 0x13 [0x00]) State.reset) = some [[0x06, 0x00]] ∧
    replied (exec (.dlMaxPayloadResp 0x19 [0x05]) State.reset) = some [[0x06, 0x00]] ∧
    replied (exec (.intUtcResp 0x02 0x80 [0]) State.reset) = some [[0x06, 0x00]] := by decide
/-- R128, R130, R134, R140. -/
theorem test_extras_ack :
    replied (exec (.basicPureackExtra 0x01 [0x00]) (State.fresh extraConfig)) = some [[0x06, 0x00]] ∧
    replied (exec (.basicResponseExtra 0x02 [0x00]) (State.fresh extraConfig)) = some [[0x06, 0x00]] ∧
    replied (exec (.dlAckExtra 0x01 [0x00]) (State.fresh extraConfig)) = some [[0x06, 0x00]] ∧
    replied (exec (.intAckExtra 0x01 0x80 []) (State.fresh extraConfig)) = some [[0x06, 0x00]] := by decide
/-- DS4. -/
theorem test_customerOverride :
    replied (exec (.basicCustomerOverride 0x11 [0x01]) State.reset)
      = some [[0x06, 0x00], [0x08, 0x01, 0x00, 0x02, 0x03, 0x11, 0xE3, 0x52]] := by decide
/-- DS6. -/
theorem test_maxPayloadReq :
    replied (exec (.dlMaxPayloadReq 0x18 [0x00]) State.reset)
      = some [[0x06, 0x00], [0x08, 0x03, 0x00, 0x02, 0x19, 0x02, 0xB3, 0x79]] := by decide
/-- DS9. -/
theorem test_getUtcReq :
    replied (exec (.intGetUtcReq 0x02 0x00) State.reset)
      = some [[0x06, 0x00], [0x08, 0x02, 0x00, 0x09, 0x02, 0x80, 0, 0, 0, 0, 0, 0, 0, 0x24, 0x9B]] := by decide
/-- R28, R93, R136: a context with a UTC-time response too long to encode still answers the ACK first, and two frames. -/
theorem test_getUtcReq_long :
    (replied (exec (.intGetUtcReq 0x02 0x00) (State.fresh longUtcConfig))).map (fun l => (l.take 1, l.length))
      = some ([[0x06, 0x00]], 2) := by decide
/-- DS5, DS8, DS10, DS12, DS15: a single NAK. -/
theorem test_nak :
    replied (exec (.basicUnknown [0x7F, 0x00]) State.reset) = some [[0x15, 0x06]] ∧
    replied (exec (.dlUnknown [0x7F, 0x00]) State.reset) = some [[0x15, 0x07]] ∧
    replied (exec (.intGetUtcReqBadlen 0x02 0x00 [0x55]) State.reset) = some [[0x15, 0x07]] ∧
    replied (exec (.intUnknown [0x7F, 0x7F]) State.reset) = some [[0x15, 0x07]] ∧
    replied (exec (.unknownCategory 0x08 0x04 [0x01, 0x00]) State.reset) = some [[0x15, 0x07]] := by decide
/-- DS17. -/
theorem test_control_silent :
    replied (exec .linkAck State.reset) = some [] ∧ replied (exec (.linkNak .checksumError) State.reset) = some [] := by
  decide
/-- DS4b, DS6b, DS5b, DS13, DS14, DS16, by DISPATCH of the received bytes. -/
theorem test_dispatch :
    txOf [0x08, 0x01, 0x00, 0x04, 0x11, 0x00, 0xAA, 0xBB, 0xCA, 0x06]
      = some [[0x06, 0x00], [0x08, 0x01, 0x00, 0x02, 0x03, 0x11, 0xE3, 0x52]] ∧
    txOf [0x08, 0x03, 0x00, 0x05, 0x18, 0x00, 0x01, 0x02, 0x03, 0x26, 0x01]
      = some [[0x06, 0x00], [0x08, 0x03, 0x00, 0x02, 0x19, 0x02, 0xB3, 0x79]] ∧
    txOf [0x08, 0x01, 0x00, 0x00, 0x7E, 0xCD] = some [[0x15, 0x06]] ∧
    txOf [0x08, 0x02, 0x00, 0x02, 0x02, 0x01, 0x01, 0x45] = some [[0x15, 0x07]] ∧
    txOf [0x08, 0x02, 0x00, 0x01, 0x02, 0xBE, 0x89] = some [[0x15, 0x07]] ∧
    txOf [0x06, 0x01, 0x00, 0x02, 0x03, 0x00, 0x14, 0x35] = some [[0x15, 0x07]] := by decide
/-- The templates of R73 as instructions. -/
theorem test_templates :
    replied (exec .txLinkAck State.reset) = some [[0x06, 0x00]] ∧
    replied (exec (.txLinkNak .requestNotSupported) State.reset) = some [[0x15, 0x07]] ∧
    replied (exec (.txBasicAppAck 0x11) State.reset) = some [[0x08, 0x01, 0x00, 0x02, 0x03, 0x11, 0xE3, 0x52]] ∧
    replied (exec .txDlMaxPayloadResp State.reset) = some [[0x08, 0x03, 0x00, 0x02, 0x19, 0x02, 0xB3, 0x79]] ∧
    replied (exec .txIntUtcResp State.reset)
      = some [[0x08, 0x02, 0x00, 0x09, 0x02, 0x80, 0, 0, 0, 0, 0, 0, 0, 0x24, 0x9B]] := by decide

/-! ### Transport boundary -/

/-- The example of R151. -/
theorem test_rxNotify :
    (nextOf (exec (.rxNotify [0x01, 0x02, 0x03]) State.reset)).map (fun t => (t.inbound, t.wake))
      = some ([0x01, 0x02, 0x03], true) := by decide
/-- The example of R153. -/
theorem test_workerLoop :
    (nextOf (exec .workerLoop { State.reset with
        inbound := [0x08, 0x03, 0x00, 0x02, 0x18, 0x00, 0xBA, 0x75, 0x06, 0x00], wake := true })).map
      (fun t => (t.outbound, t.inbound, t.buf))
      = some ([0x06, 0x00, 0x08, 0x03, 0x00, 0x02, 0x19, 0x02, 0xB3, 0x79], [], []) := by decide
/-- T2: with 3 free bytes the ACK is accepted and the response dropped whole. -/
theorem test_workerLoop_full_queue :
    (nextOf (exec .workerLoop { State.reset with
        inbound := [0x08, 0x03, 0x00, 0x02, 0x18, 0x00, 0xBA, 0x75], outbound := List.replicate 61 0 })).map
      (fun t => (t.outbound.drop 61, t.result))
      = some ([0x06, 0x00], .tx .resourceExhausted) := by decide
/-- R154: room exactly, room one byte short; T5: not ready. -/
theorem test_txEnqueue :
    (nextOf (exec (.txEnqueue [0x06, 0x00]) { State.reset with outbound := List.replicate 62 0 })).map
      (fun t => (t.outbound.drop 62, t.txEnabled, t.result)) = some ([0x06, 0x00], true, .tx .ok) ∧
    answered (exec (.txEnqueue [0x06, 0x00]) { State.reset with outbound := List.replicate 63 0 })
      = some (.tx .resourceExhausted) ∧
    answered (exec (.txEnqueue [0x06, 0x00]) { State.reset with ready := false }) = some (.tx .notReady) := by decide

/-! ### Step -/

/-- A table word placed in the reset state is fetched and run by the very next step. -/
theorem test_step_fetches :
    step (State.reset.withFetchWord 16 0x0600) = exec .linkAck State.reset ∧
    step (State.reset.withFetchWord 16 0x1504) = exec (.linkNak .reserved) State.reset ∧
    step (State.reset.withFetchWord 48 0x080100021100) = exec (.basicCustomerOverride 0x11 [0x00]) State.reset := by
  refine ⟨rfl, rfl, rfl⟩
/-- A word that is no unit is examined as a candidate: `06 01` waits (A8). -/
theorem test_step_fetches_candidate :
    seen (step (State.reset.withFetchWord 16 0x0601)) = some ([], [0x06, 0x01]) := by decide
/-- The first step from reset: the worker waits (R35, R180). -/
theorem test_first_step : step State.reset = .next { State.reset with phase := .waiting } := by rfl

/-! ### Witnesses: concrete states and operands that meet the hypotheses of each statement that has some

A clause whose hypotheses are on the operands alone is met in every state; `configOk` of the reset state is
`test_ref_meets_r11`. -/

/-- Two bytes of which the first is no control type. -/
theorem noControl_of_first (cfg : Config) (b0 : Byte) (rest : List Byte) (h6 : b0 ≠ 0x06) (h15 : b0 ≠ 0x15) :
    noControl cfg (b0 :: rest) := by
  cases rest with
  | nil => exact trivial
  | cons b1 tl => exact ⟨fun h => h6 h.1, fun h => h15 h.1⟩

/-- `15 08` and `06 01` are no control frames under REF. -/
theorem noControl_near_misses : noControl refConfig [0x15, 0x08] ∧ noControl refConfig [0x06, 0x01] := by
  refine ⟨⟨by decide, ?_⟩, ⟨by decide, ?_⟩⟩
  · rintro ⟨-, r, h⟩; revert h; cases r <;> decide
  · rintro ⟨h, -⟩; revert h; decide

/-- The fixed points: empty, five bytes, and a candidate with `L = LMAX` and a byte short. -/
theorem atFixedPoint_boundaries :
    atFixedPoint refConfig [] ∧ atFixedPoint refConfig [0x08, 0x01, 0x00, 0x21, 0x00] ∧
    atFixedPoint refConfig ([0x08, 0x01, 0x00, 0x20] ++ List.replicate 33 0) := by
  refine ⟨⟨trivial, .inl (by decide)⟩, ⟨noControl_of_first _ _ _ (by decide) (by decide), .inl (by decide)⟩,
    ⟨noControl_of_first _ _ _ (by decide) (by decide), .inr ⟨0x08, 0x01, 0x00, 0x20, List.replicate 33 0, rfl, ?_⟩⟩⟩
  decide

theorem witness_CkByteUpdatesBothAccumulators : (254 : Byte).toNat ≤ 254 ∧ (0 : Byte).toNat ≤ 254 := by decide
theorem witness_CkFinalPacksHighByteFirst : (254 : Byte).toNat ≤ 254 ∧ (0 : Byte).toNat ≤ 254 := by decide
theorem witness_EncFullStampsTheFrame : ([] : List Byte).length ≤ 65535 ∧ (List.replicate 65535 (0 : Byte)).length ≤ 65535 :=
  ⟨by decide, by rw [List.length_replicate]⟩
theorem witness_ControlEncodersAnswerTwoBytes : configOk State.reset.cfg = true := by decide

/-- An ACK, each NAK at the ends of `NAK_CODE`, and the near misses `15 08` and `06 01`. -/
theorem witness_DecCtrlAcceptsExactPairs :
    configOk State.reset.cfg = true ∧ (0x00 : Byte) = State.reset.cfg.ackT2 ∧
    (0x00 : Byte) = nakByte State.reset.cfg.nakCode .noReason ∧
    (0x07 : Byte) = nakByte State.reset.cfg.nakCode .requestNotSupported ∧
    noControl State.reset.cfg [0x15, 0x08] ∧ noControl State.reset.cfg [0x06, 0x01] :=
  ⟨by decide, by decide, by decide, by decide, noControl_near_misses⟩

/-- Five bytes; six bytes that declare 1; a body of 0 and of 2 bytes. -/
theorem witness_DecFullDecidesEverySequence :
    ([0x08, 0x01, 0x00, 0x00, 0x7E] : List Byte).length < 6 ∧
    (2 ≤ ([0x7E, 0xCD] : List Byte).length ∧
      ([0x7E, 0xCD] : List Byte).length ≠ 256 * (0x00 : Byte).toNat + (0x01 : Byte).toNat + 2) ∧
    ([] : List Byte).length = 256 * (0x00 : Byte).toNat + (0x00 : Byte).toNat ∧
    ([0x03, 0x00] : List Byte).length = 256 * (0x00 : Byte).toNat + (0x02 : Byte).toNat := by decide

theorem witness_EncodeAndDecodeAreInverse :
    ([0x03, 0x00] : List Byte).length ≤ 65535 ∧
    decodeFull [0x08, 0x01, 0x00, 0x00, 0x7E, 0xCD] = .full 0x08 0x01 [] ∧
    configOk refConfig = true ∧ encodeLinkAck refConfig = [0x06, 0x00] ∧
    encodeLinkNak refConfig .requestNotSupported = [0x15, 0x07] := by decide

/-- One well-formed unit of every received row. -/
theorem witness_DecodeOfEncodedUnit :
    configOk extraConfig = true ∧
    ([.linkAck, .linkNak .reserved, .basicAppAck 0x03 [], .basicAppNak 0x04 [0], .basicOperStateResp 0x13 [0],
      .basicPureackExtra 0x01 [], .basicCustomerOverride 0x11 [0, 1], .basicResponseExtra 0x02 [], .basicUnknown [],
      .basicUnknown [0x7F], .dlMaxPayloadReq 0x18 [], .dlMaxPayloadResp 0x19 [5], .dlAckExtra 0x01 [], .dlAckExtra 0x02 [],
      .dlUnknown [0x11], .intGetUtcReq 0x02 0x00, .intGetUtcReqBadlen 0x02 0x00 [0], .intUtcResp 0x02 0x80 [],
      .intAckExtra 0x01 0x00 [], .intAckExtra 0x01 0x80 [9], .intUnknown [0x02], .unknownCategory 0x08 0x04 [],
      .unknownCategory 0x06 0x01 [0]] : List Instr).all (fun i => i.wf extraConfig && i.isReceived) = true := by decide

theorem witness_EncodeOfDecodedBytes :
    configOk refConfig = true ∧ decode refConfig [0x08, 0x01, 0x00, 0x00, 0x7E, 0xCD] = .ok (.basicUnknown []) := by decide

theorem witness_TemplatesDecodeToTheirFrames :
    configOk refConfig = true ∧ encode refConfig .txLinkAck = some [0x06, 0x00] ∧
    encode refConfig (.txLinkNak .requestNotSupported) = some [0x15, 0x07] ∧
    encode refConfig (.txBasicAppAck 0x11) = some [0x08, 0x01, 0x00, 0x02, 0x03, 0x11, 0xE3, 0x52] ∧
    encode refConfig .txDlMaxPayloadResp = some [0x08, 0x03, 0x00, 0x02, 0x19, 0x02, 0xB3, 0x79] ∧
    encode refConfig .txIntUtcResp
      = some [0x08, 0x02, 0x00, 0x09, 0x02, 0x80, 0, 0, 0, 0, 0, 0, 0, 0x24, 0x9B] := by decide

theorem witness_ControlStepsEmitAndDropTwo :
    configOk (ref [0x06, 0x00]).cfg = true ∧ (ref [0x06, 0x00]).buf = [0x06, (ref [0x06, 0x00]).cfg.ackT2] ∧
    (ref [0x15, 0x07, 0x08]).buf = [0x15, nakByte (ref [0x15, 0x07, 0x08]).cfg.nakCode .requestNotSupported, 0x08] := by
  decide

/-- An empty buffer, five bytes, `L = LMAX` with one byte missing, `L = 1` with one byte missing. -/
theorem witness_WaitStepsStopTheLoop :
    configOk (ref []).cfg = true ∧ (ref []).phase = .loop [] ∧ noControl refConfig [] ∧ ([] : List Byte).length < 6 ∧
    noControl refConfig [0x08, 0x01, 0x00, 0x01, 0x03] ∧ ([0x08, 0x01, 0x00, 0x01, 0x03] : List Byte).length < 6 ∧
    noControl refConfig [0x08, 0x01, 0x00, 0x01, 0x03, 0xC1] ∧
    256 * (0x00 : Byte).toNat + (0x01 : Byte).toNat ≤ (ref []).cfg.lmax ∧
    ([0x08, 0x01, 0x00, 0x01, 0x03, 0xC1] : List Byte).length < 256 * (0x00 : Byte).toNat + (0x01 : Byte).toNat + 6 ∧
    noControl refConfig ([0x08, 0x01, 0x00, 0x20] ++ List.replicate 33 0) ∧
    256 * (0x00 : Byte).toNat + (0x20 : Byte).toNat ≤ (ref []).cfg.lmax ∧
    ([0x08, 0x01, 0x00, 0x20] ++ List.replicate 33 (0 : Byte)).length
      < 256 * (0x00 : Byte).toNat + (0x20 : Byte).toNat + 6 := by
  refine ⟨by decide, rfl, trivial, by decide, noControl_of_first _ _ _ (by decide) (by decide), by decide,
    noControl_of_first _ _ _ (by decide) (by decide), by decide, by decide,
    noControl_of_first _ _ _ (by decide) (by decide), by decide, by decide⟩

/-- `L = LMAX + 1`; and `L = 65535`, whose frame exceeds `C` too. -/
theorem witness_ResyncLenDropsOneByte :
    configOk refConfig = true ∧ (ref [0x08, 0x01, 0x00, 0x21, 0x00, 0x00]).buf = [0x08, 0x01, 0x00, 0x21, 0x00, 0x00] ∧
    noControl refConfig [0x08, 0x01, 0x00, 0x21, 0x00, 0x00] ∧
    refConfig.lmax < 256 * (0x00 : Byte).toNat + (0x21 : Byte).toNat ∧
    noControl refConfig [0x15, 0x08, 0xFF, 0xFF, 0x00, 0x00] ∧
    refConfig.cap < 256 * (0xFF : Byte).toNat + (0xFF : Byte).toNat + 6 :=
  ⟨by decide, rfl, noControl_of_first _ _ _ (by decide) (by decide), by decide, noControl_near_misses.1, by decide⟩

/-- A body of 2 bytes and a wrong low byte; an empty body. -/
theorem witness_ResyncCkDropsOneByte :
    configOk refConfig = true ∧ noControl refConfig [0x08, 0x02, 0x00, 0x02, 0x02, 0x00, 0x03, 0x45] ∧
    ([0x02, 0x00] : List Byte).length = 256 * (0x00 : Byte).toNat + (0x02 : Byte).toNat ∧
    ([0x02, 0x00] : List Byte).length ≤ refConfig.lmax ∧
    (Machine.checksum [0x08, 0x02, 0x00, 0x02, 0x02, 0x00]).toNat ≠ 256 * (0x03 : Byte).toNat + (0x45 : Byte).toNat ∧
    noControl refConfig [0x08, 0x01, 0x00, 0x00, 0x00, 0x00] ∧
    ([] : List Byte).length = 256 * (0x00 : Byte).toNat + (0x00 : Byte).toNat ∧
    (Machine.checksum [0x08, 0x01, 0x00, 0x00]).toNat ≠ 256 * (0x00 : Byte).toNat + (0x00 : Byte).toNat :=
  ⟨by decide, noControl_of_first _ _ _ (by decide) (by decide), by decide, by decide, by decide,
    noControl_of_first _ _ _ (by decide) (by decide), by decide, by decide⟩

/-- DS5b's empty body; a body of `LMAX` bytes with its checksum by the formulas of R82, R83. -/
theorem witness_EmitFullEmitsTheFrame :
    configOk refConfig = true ∧ noControl refConfig [0x08, 0x01, 0x00, 0x00, 0x7E, 0xCD] ∧
    ([] : List Byte).length = 256 * (0x00 : Byte).toNat + (0x00 : Byte).toNat ∧
    (Machine.checksum [0x08, 0x01, 0x00, 0x00]).toNat = 256 * (0x7E : Byte).toNat + (0xCD : Byte).toNat ∧
    (List.replicate 32 (0x00 : Byte)).length = 256 * (0x00 : Byte).toNat + (0x20 : Byte).toNat ∧
    (List.replicate 32 (0x00 : Byte)).length ≤ refConfig.lmax ∧
    ∃ kh kl : Byte, (Machine.checksum ([0x08, 0x01, 0x00, 0x20] ++ List.replicate 32 0)).toNat
      = 256 * kh.toNat + kl.toNat ∧
      noControl refConfig ([0x08, 0x01, 0x00, 0x20] ++ List.replicate 32 0 ++ [kh, kl]) :=
  ⟨by decide, noControl_of_first _ _ _ (by decide) (by decide), by decide, by decide, by decide, by decide,
    hiByte (Machine.checksum ([0x08, 0x01, 0x00, 0x20] ++ List.replicate 32 0)),
    loByte (Machine.checksum ([0x08, 0x01, 0x00, 0x20] ++ List.replicate 32 0)), by decide,
    noControl_of_first _ _ _ (by decide) (by decide)⟩

theorem witness_UnselectedLoopStepsDoNothing :
    configOk (ref [0x06, 0x00]).cfg = true ∧
    asmInstr .emitFull ≠ asmInstr (asmSelect (ref [0x06, 0x00]).cfg (ref [0x06, 0x00]).buf) := by decide

/-- A chunk that fills the buffer exactly; one byte too many. -/
theorem witness_OverflowDiscardsTheExcess :
    configOk (small []).cfg = true ∧ (List.replicate 16 (0 : Byte)).length ≤ (small []).cfg.cap ∧
    (small []).buf.length + (List.replicate 16 (0 : Byte)).length ≤ (small []).cfg.cap ∧
    (small [0x08]).buf.length + (List.replicate 16 (0 : Byte)).length = (small [0x08]).cfg.cap + 1 := by decide
theorem witness_AppendAddsTheChunkAtTheBack :
    configOk (small [0x08]).cfg = true ∧
    (small [0x08]).buf.length + (List.replicate 15 (0 : Byte)).length ≤ (small [0x08]).cfg.cap ∧
    ({ State.reset with phase := .append [0x06] [0x00] } : State).phase = .append [0x06] [0x00] ∧
    ({ State.reset with phase := .append [0x06] [0x00] } : State).inputs = [] := by decide
theorem witness_IngestReachesAFixedPoint : configOk State.reset.cfg = true ∧ State.reset.inIngest = false := by decide
theorem witness_IngestIsItsSmallSteps :
    configOk State.reset.cfg = true ∧ State.reset.phase = .top ∧ State.reset.inputs = [] := by decide

/-- A context that still holds a report of a loss. -/
def lossy : State := { State.reset with events := [.loss 3] }

/-- A frame split in its middle, and the ACK after it split too, while an earlier report of a loss is still held. -/
theorem witness_ChunkingIsInvisible :
    configOk lossy.cfg = true ∧ lossy.inIngest = false ∧ atFixedPoint lossy.cfg lossy.buf ∧
    ∃ t : State,
      exec (.ingest ([[0x08, 0x01, 0x00], [0x00, 0x7E, 0xCD, 0x06], [0x00]] : List (List Byte)).flatten) lossy = .next t ∧
      ingestAll [[0x08, 0x01, 0x00], [0x00, 0x7E, 0xCD, 0x06], [0x00]] lossy = some t ∧ noLoss (newEvents lossy t) := by
  refine ⟨by decide, by decide, atFixedPoint_boundaries.1,
    { lossy with events := [.loss 3, .frame (.full 0x08 0x01 []), .frame (.ctrl .ack)], pos := 8 }, rfl, rfl, ?_⟩
  intro d h
  simp [newEvents, lossy] at h
theorem witness_EmptyChunkDoesNothing :
    configOk (idle refConfig []).cfg = true ∧ (idle refConfig [0x08]).inIngest = false ∧
    atFixedPoint refConfig (idle refConfig []).buf ∧
    atFixedPoint refConfig (idle refConfig ([0x08, 0x01, 0x00, 0x20] ++ List.replicate 33 0)).buf :=
  ⟨by decide, by decide, atFixedPoint_boundaries.1, atFixedPoint_boundaries.2.2⟩

/-- No garbage; A1 in front of `08 01 00 00 7E CD` (a wrong length); `A1 A1 00 00 A1 A1 A1` in front of it (a wrong
checksum, then six wrong lengths). -/
theorem witness_GarbageIsSkippedByteByByte :
    configOk State.reset.cfg = true ∧ State.reset.inIngest = false ∧ State.reset.buf = [] ∧
    noControl State.reset.cfg [0x08, 0x01] ∧
    (∀ k, k < ([0xA1] : List Byte).length →
      asmSelect State.reset.cfg (([0xA1] ++ fullBytes 0x08 0x01 []).drop k) = .resyncLen ∨
      asmSelect State.reset.cfg (([0xA1] ++ fullBytes 0x08 0x01 []).drop k) = .resyncCk) ∧
    (∀ k, k < ([0xA1, 0xA1, 0x00, 0x00, 0xA1, 0xA1, 0xA1] : List Byte).length →
      asmSelect State.reset.cfg (([0xA1, 0xA1, 0x00, 0x00, 0xA1, 0xA1, 0xA1] ++ fullBytes 0x08 0x01 []).drop k) = .resyncLen ∨
      asmSelect State.reset.cfg (([0xA1, 0xA1, 0x00, 0x00, 0xA1, 0xA1, 0xA1] ++ fullBytes 0x08 0x01 []).drop k) = .resyncCk) :=
  ⟨by decide, by decide, rfl, noControl_of_first _ _ _ (by decide) (by decide), by decide, by decide⟩
theorem witness_BufferResetEmptiesTheBuffer : (idle refConfig [0x08]).inIngest = false := by decide

theorem witness_UsesOutsideTheContractStop :
    configOk (ref []).cfg = true ∧ 65535 < (List.replicate 65536 (0 : Byte)).length ∧
    (small []).cfg.cap < (List.replicate 17 (0 : Byte)).length ∧
    (small [0x08]).cfg.cap < (small [0x08]).buf.length + (List.replicate 16 (0 : Byte)).length ∧
    (ref []).inIngest = true ∧ (ref []).busy = true ∧
    ({ State.reset with replies := [[0x06, 0x00]] } : State).busy = true := by
  refine ⟨by decide, ?_, by decide⟩
  rw [List.length_replicate]; decide
theorem witness_LoopIterationsMakeProgress :
    configOk (ref []).cfg = true ∧ (ref []).phase = .loop [] ∧ (ref []).inputs = [] ∧
    (ref [0x06, 0x00]).phase = .loop [] := by decide

/-- One body for each clause. -/
theorem witness_DispatchFollowsTheOutcomeTable :
    configOk extraConfig = true ∧ categoryOf 0x08 0x04 = none ∧ categoryOf 0x06 0x01 = none ∧
    (lookupBasic extraConfig [0x04, 0x01]).map basicClass = some .pureAck ∧
    (lookupBasic extraConfig [0x02]).map basicClass = some .response ∧
    (basicOp extraConfig 0x11).map basicClass = some .customerOverride ∧
    lookupBasic extraConfig [] = none ∧ lookupBasic extraConfig [0x7F] = none ∧
    (lookupDataLink extraConfig [0x18]).map dataLinkClass = some .maxPayloadReq ∧
    (lookupDataLink extraConfig [0x19, 0x05]).map dataLinkClass = some .maxPayloadResp ∧
    lookupDataLink extraConfig [] = none ∧
    (lookupIntermediate extraConfig [0x02, 0x00]).map intermediateClass = some .getUtcReq ∧
    (lookupIntermediate extraConfig [0x02, 0x00, 0x55]).map intermediateClass = some .getUtcReq ∧
    (lookupIntermediate extraConfig [0x02, 0x80]).map intermediateClass = some .response ∧
    lookupIntermediate extraConfig [0x02] = none := by decide
/-- Both sides of each equivalence, and both cases of the UTC-time response. -/
theorem witness_RowsAgreeWithDispatch :
    classify ackConfig (.full 0x08 0x01 [0x04]) = .basicAppAck 0x04 [] ∧ (0x04 : Byte) = ackConfig.opBasicAppAck ∧
    classify ackConfig (.full 0x08 0x01 [0x03]) ≠ .basicAppAck 0x03 [] ∧ (0x03 : Byte) ≠ ackConfig.opBasicAppAck ∧
    classify refConfig (.full 0x08 0x02 [0x02, 0x80]) = .intUtcResp 0x02 0x80 [] ∧
    refConfig.utcN + 2 ≤ 65535 ∧ ¬ longUtcConfig.utcN + 2 ≤ 65535 := by decide
theorem witness_DispatchIgnoresThePayload :
    ([0x02, 0x00, 0x55] : List Byte).length = ([0x02, 0x00, 0xAA] : List Byte).length ∧
    opcode1 [0x02, 0x00, 0x55] = opcode1 [0x02, 0x00, 0xAA] ∧ opcode2 [0x02, 0x00, 0x55] = opcode2 [0x02, 0x00, 0xAA] ∧
    opcode1 [0x03, 0x01] = opcode1 [0x03, 0x02] := by decide

/-- A full queue exactly; one byte over. -/
theorem witness_Notify :
    configOk State.reset.cfg = true ∧
    State.reset.inbound.length + (List.replicate 64 (0 : Byte)).length ≤ State.reset.cfg.qinCap ∧
    State.reset.cfg.qinCap < State.reset.inbound.length + (List.replicate 65 (0 : Byte)).length := by decide
theorem witness_EnqueueIsAllOrNothing :
    ({ State.reset with ready := false } : State).ready = false ∧ State.reset.ready = true ∧
    ([0x06, 0x00] : List Byte).length
      ≤ State.reset.cfg.qoutCap - ({ State.reset with outbound := List.replicate 62 0 } : State).outbound.length ∧
    State.reset.cfg.qoutCap - ({ State.reset with outbound := List.replicate 63 0 } : State).outbound.length
      < ([0x06, 0x00] : List Byte).length := by decide

/-- The five cases of one pass. -/
theorem witness_WorkerLoopPass :
    configOk State.reset.cfg = true ∧ State.reset.busy = false ∧
    ({ State.reset with inbound := [0x06] } : State).phase = .top ∧
    ({ State.reset with inbound := [0x06] } : State).inbound ≠ [] ∧
    State.reset.inbound = [] ∧ State.reset.wake = false ∧ ({ State.reset with wake := true } : State).wake = true ∧
    ({ State.reset with inbound := [0x06], phase := .waiting } : State).busy = false := by decide
theorem witness_WorkerLoopIsItsSmallSteps :
    ({ State.reset with inbound := [0x06, 0x00, 0x08] } : State).busy = false ∧
    ({ State.reset with inbound := [0x06, 0x00, 0x08] } : State).inputs = [] := by decide

/-- With nothing listed, and with the worker's turn listed, in both positions of the worker. -/
theorem witness_StepRunsTheDecodedUnit :
    configOk State.reset.cfg = true ∧ ({ State.reset with phase := .waiting } : State).phase = .waiting ∧
    State.reset.replies = [] ∧
    ({ State.reset with events := [.frame (.full 0x08 0x01 [])] } : State).events = .frame (.full 0x08 0x01 []) :: [] ∧
    decodeFrame State.reset.cfg [0x08, 0x01, 0x00, 0x00, 0x7E, 0xCD] = .ok (.full 0x08 0x01 []) ∧
    decode State.reset.cfg [0x08, 0x01, 0x00, 0x00, 0x7E, 0xCD] = .ok (.basicUnknown []) ∧
    ({ State.reset with inputs := [.work] } : State).inputs = .work :: [] := by decide
theorem witness_LoopEmitsTheDecodableUnit :
    configOk (ref []).cfg = true ∧ (ref []).phase = .loop [] ∧ (ref []).inputs = [] ∧
    (ref [0x06, 0x00, 0x08]).buf = [0x06, 0x00] ++ [0x08] ∧
    decodeFrame (ref []).cfg [0x06, 0x00] = .ok (.ctrl .ack) ∧ ([0x06, 0x00] : List Byte).length ≤ (ref []).cfg.lmax + 6 ∧
    decodeFrame (ref []).cfg (fullBytes 0x08 0x01 (List.replicate 32 0)) = .ok (.full 0x08 0x01 (List.replicate 32 0)) ∧
    (fullBytes 0x08 0x01 (List.replicate 32 0)).length ≤ (ref []).cfg.lmax + 6 := by decide
theorem witness_StepRunsTheWorkersTurn :
    ({ State.reset with phase := .overflow [0x06] } : State).phase = .overflow [0x06] ∧
    ({ State.reset with phase := .append [0x06] [] } : State).phase = .append [0x06] [] ∧ (ref []).phase = .loop [] ∧
    State.reset.inIngest = false ∧ ({ State.reset with replies := [[0x06, 0x00]] } : State).replies = [0x06, 0x00] :: [] ∧
    State.reset.busy = false ∧ ({ State.reset with phase := .waiting, wake := true } : State).busy = false ∧
    lossy.inIngest = false ∧ lossy.replies = [] ∧ lossy.events = .loss 3 :: [] ∧
    ({ State.reset with events := [.resync .length] } : State).events = .resync .length :: [] ∧
    ({ State.reset with inbound := [0x06] } : State).busy = false := by decide

/-- A safe state, its successor, and a state in the middle of an `ingest` that steps. -/
theorem witness_StepKeepsSafe :
    State.reset.safe = true ∧ step State.reset = .next { State.reset with phase := .waiting } ∧
    (ref [0x06, 0x00]).safe = true ∧
    step (ref [0x06, 0x00]) = .next { ref [] with events := [.frame (.ctrl .ack)], pos := 2 } := by
  refine ⟨by decide, rfl, by decide, rfl⟩

/-- No input; a call of ENC.FULL at the longest body. -/
theorem witness_SafeStatesNeverStop :
    State.reset.safe = true ∧ nextInputOk State.reset ∧
    ({ State.reset with inputs := [.call (.encFull 0x08 0x01 (List.replicate 65535 0))] } : State).safe = true ∧
    nextInputOk { State.reset with inputs := [.call (.encFull 0x08 0x01 (List.replicate 65535 0))] } := by
  refine ⟨by decide, trivial, rfl, nofun, ?_⟩
  intro t1 t2 body h
  injection h with _ _ h
  subst h
  rw [List.length_replicate]

/-- A step with a report: the buffer and the cursor move. The three statements over every step share it. -/
theorem witness_EveryStep :
    step (ref [0x08, 0x01, 0x00, 0x21, 0x00, 0x00])
      = .next { ref [0x01, 0x00, 0x21, 0x00, 0x00] with events := [.resync .length], pos := 1 } := by rfl
theorem witness_FramingErrorsAreSilent :
    (ref [0x08, 0x01, 0x00, 0x21, 0x00, 0x00]).inIngest = true ∧ (ref [0x08, 0x01, 0x00, 0x21, 0x00, 0x00]).inputs = [] := by
  decide
/-- The piece of the worker's position enters the buffer. -/
theorem witness_BufferChangesOnlyAtItsEnds :
    step { idle refConfig [0x08] with phase := .append [0x01] [] } = .next (ref [0x08, 0x01]) := by rfl
/-- A reply that is offered: the queue grows by one whole frame. -/
theorem witness_OutboundGrowsByWholeFrames :
    (nextOf (step { State.reset with replies := [[0x06, 0x00]] })).map (fun t => t.outbound) = some [0x06, 0x00] := by decide

/-- One input for each clause, inside and outside an operation. -/
theorem witness_StepTakesTheEnvironmentsTurn :
    configOk State.reset.cfg = true ∧ callKind .encLinkAck = .betweenOperations ∧ callKind .ckInit = .noPort ∧
    ({ ref [] with inputs := [.work] } : State).inputs = .work :: [] ∧
    ({ State.reset with inputs := [.call .bufferReset] } : State).inIngest = false ∧
    ({ ref [] with inputs := [.call .bufferReset] } : State).inIngest = true ∧
    ({ State.reset with inputs := [.call .encLinkAck] } : State).busy = false ∧
    ({ ref [] with inputs := [.call .encLinkAck] } : State).busy = true ∧
    ({ State.reset with txEnabled := true } : State).txEnabled = true ∧ State.reset.txEnabled = false := by decide

/-- Each disjunct, at its boundary: `C = LMAX + 5`, `LMAX = 65530`, two NAK codes alike, an emitted opcode not listed. -/
theorem witness_BadConfigurationIsRefused :
    ({ refConfig with cap := 37 } : Config).cap < ({ refConfig with cap := 37 } : Config).lmax + 6 ∧
    65529 < ({ refConfig with lmax := 65530 } : Config).lmax ∧
    nakByte { refNakCodes with timeout := 0x06 } .timeout
      = nakByte { refNakCodes with timeout := 0x06 } .unsupportedMessageType ∧
    (refConfig.basic.lookup 0x11).map basicClass ≠ some .pureAck ∧
    (refConfig.dataLink.lookup 0x18).map dataLinkClass ≠ some .maxPayloadResp ∧
    (refConfig.intermediate.lookup (0x02, 0x00)).map intermediateClass ≠ some .response := by decide

end Sys2Proof.Tests
end

