-- ==== Sys2Proof/Proofs/Checksum.lean ====
section
/-! PROOFS. The Checksum Engine's rows (spec/40_checksum.md R80 to R83). -/

namespace Sys2Proof.Machine

open Sys2Proof.Statements

/-! ### What each row answers -/

/-- CHECKSUM runs from every state and writes the answer alone (R80). -/
theorem exec_checksum (bytes : List Byte) (s : State) :
    exec (.checksum bytes) s = .next (s.answer (.word (checksum bytes))) := by rfl

/-- CK.INIT runs from every state and writes the answer alone (R81). -/
theorem exec_ckInit (s : State) : exec .ckInit s = .next (s.answer (.acc ckSeed.c1 ckSeed.c2)) := by rfl

/-- CK.BYTE runs from every state and writes the answer alone (R82). -/
theorem exec_ckByte (a : Acc) (b : Byte) (s : State) :
    exec (.ckByte a.c1 a.c2 b) s =
      .next (s.answer (.acc (ckAccumulate a b).c1 (ckAccumulate a b).c2)) := by rfl

/-- CK.FINAL runs from every state and writes the answer alone (R83). -/
theorem exec_ckFinal (a : Acc) (s : State) :
    exec (.ckFinal a.c1 a.c2) s = .next (s.answer (.word (ckFinish a))) := by rfl

/-- The last answer is the only one that is kept (S7). -/
@[simp] theorem State.answer_answer (s : State) (v w : Value) : (s.answer v).answer w = s.answer w := rfl

/-! ### The sub-steps in sequence -/

/-- CK.BYTE over a sequence hands the accumulators on through the answer, so it ends in the fold from whatever
accumulators it started with (R80, R82). -/
theorem ckByteAll_answer_acc (bytes : List Byte) (a : Acc) (s : State) :
    ckByteAll bytes (s.answer (.acc a.c1 a.c2)) =
      some (s.answer (.acc (bytes.foldl ckAccumulate a).c1 (bytes.foldl ckAccumulate a).c2)) := by
  induction bytes generalizing a with
  | nil => rfl
  | cons b bs ih =>
    simp only [ckByteAll, State.answer_result, exec_ckByte, State.answer_answer, List.foldl_cons]
    exact ih (ckAccumulate a b)

/-- CK.INIT, CK.BYTE for each byte and CK.FINAL leave what CHECKSUM leaves (R80). -/
theorem ckSubSteps_eq_exec_checksum (bytes : List Byte) (s : State) :
    ckSubSteps bytes s = some (exec (.checksum bytes) s) := by
  simp only [ckSubSteps, exec_ckInit, ckByteAll_answer_acc, State.answer_result, exec_ckFinal,
    State.answer_answer, exec_checksum, checksum]

/-! ### The obligations -/

/-- Settles O4: the fold of CK.BYTE from the seeds, finished by CK.FINAL, is CHECKSUM's own value. -/
theorem checksumIsItsSubSteps : Obligations.ChecksumIsItsSubSteps := fun s bytes =>
  ⟨⟨checksum bytes, exec_checksum bytes s⟩, ckSubSteps_eq_exec_checksum bytes s⟩

/-- Settles O1: the seeds are 0xAA = 170 and 0. -/
theorem ckInitAnswersTheSeeds : Obligations.CkInitAnswersTheSeeds := exec_ckInit

/-- Settles O2: both updates are remainders by 255, so they fit a byte and the second reads the first unchanged. -/
theorem ckByteUpdatesBothAccumulators : Obligations.CkByteUpdatesBothAccumulators := by
  intro s c1 c2 b _ _
  obtain ⟨hlt1, hlt2⟩ := ckAccumulate_lt ⟨c1, c2⟩ b
  refine ⟨_, _, exec_ckByte ⟨c1, c2⟩ b s, ckAccumulate_c1 _ b, ?_, by omega, by omega⟩
  rw [ckAccumulate_c2, ckAccumulate_c1]

/-- Settles O3: neither complemented sum exceeds 255, so packing them loses nothing. -/
theorem ckFinalPacksHighByteFirst : Obligations.CkFinalPacksHighByteFirst := fun s c1 c2 _ _ =>
  ⟨ckFinish ⟨c1, c2⟩, _, _, exec_ckFinal ⟨c1, c2⟩ s, rfl, rfl, ckFinish_toNat ⟨c1, c2⟩⟩

end Sys2Proof.Machine
end

/-! PROOFS. The encoders and decoders of the Wire Message Model (spec/41_wire_model.md R91, R92, R94 to R96). -/

namespace Sys2Proof.Machine

/-! ### What each row answers -/

/-- ENC.LINK_ACK runs under every configuration that meets R11 and writes the answer alone (R91). -/
theorem exec_encLinkAck {s : State} (hc : configOk s.cfg = true) :
    exec .encLinkAck s = .next (s.answer (.bytes (encodeLinkAck s.cfg))) :=
  State.configured_of_ok hc _

/-- ENC.LINK_NAK runs under every configuration that meets R11 and writes the answer alone (R92). -/
theorem exec_encLinkNak {s : State} (hc : configOk s.cfg = true) (r : NakReason) :
    exec (.encLinkNak r) s = .next (s.answer (.bytes (encodeLinkNak s.cfg r))) :=
  State.configured_of_ok hc _

/-- DEC.FULL runs from every state and writes the answer alone (R95). -/
theorem exec_decFull (bytes : List Byte) (s : State) :
    exec (.decFull bytes) s = .next (s.answer (.full (decodeFull bytes))) := by rfl

/-! ### DEC.FULL, an equation for each outcome (R95) -/

theorem decodeFull_of_short {f : List Byte} (h : f.length < 6) : decodeFull f = .invalid .tooShort := by
  rw [decodeFull, if_pos h]

theorem decodeFull_of_mismatch {f : List Byte} (h6 : 6 ≤ f.length) (h : f.length ≠ declaredLength f + 6) :
    decodeFull f = .invalid .lengthMismatch := by
  rw [decodeFull, if_neg (by omega), if_pos h]

/-- A sequence of exactly the declared length is decided by its checksum. -/
theorem decodeFull_candidate {h l : Byte} {body : List Byte} (hl : body.length = 256 * h.toNat + l.toNat)
    (t1 t2 kh kl : Byte) :
    decodeFull (t1 :: t2 :: h :: l :: (body ++ [kh, kl])) =
      if (checksum (t1 :: t2 :: h :: l :: body)).toNat = 256 * kh.toNat + kl.toNat
        then .full t1 t2 body else .invalid .checksum := by
  obtain ⟨hdeclared, hcovered, hstored, hbody⟩ := candidate_fields t1 t2 h l kh kl body [] hl
  rw [decodeFull, if_neg (by simp), hdeclared, if_neg (by simp), hcovered, hbody, ← hstored]
  simp only [BitVec.toNat_inj, ne_eq, ite_not, byteAt_zero, byteAt_succ]

/-- A sequence of exactly the declared length is four leading bytes, a body of that length and two last bytes (R62, R65). -/
theorem exists_candidate {f : List Byte} (hf : f.length = declaredLength f + 6) :
    ∃ (t1 t2 h l kh kl : Byte) (body : List Byte),
      body.length = 256 * h.toNat + l.toNat ∧ f = t1 :: t2 :: h :: l :: (body ++ [kh, kl]) := by
  match f, hf with
  | t1 :: t2 :: h :: l :: rest, hf =>
    rw [declaredLength_cons] at hf
    simp only [List.length_cons] at hf
    have hlast : (rest.drop (256 * h.toNat + l.toNat)).length = 2 := by rw [List.length_drop]; omega
    obtain ⟨kh, kl, hk⟩ := List.length_eq_two.mp hlast
    refine ⟨t1, t2, h, l, kh, kl, rest.take (256 * h.toNat + l.toNat), by rw [List.length_take]; omega, ?_⟩
    rw [← hk, List.take_append_drop]

/-- DEC.FULL answers a frame on exactly the sequences laid out as that frame: its type pair, its body's length, its body and
the checksum of these, each field high byte first (R93, R95). -/
theorem decodeFull_eq_full_iff {f : List Byte} {t1 t2 : Byte} {body : List Byte} :
    decodeFull f = .full t1 t2 body ↔
      ∃ h l kh kl : Byte, body.length = 256 * h.toNat + l.toNat ∧
        (checksum (t1 :: t2 :: h :: l :: body)).toNat = 256 * kh.toNat + kl.toNat ∧
        f = t1 :: t2 :: h :: l :: (body ++ [kh, kl]) := by
  constructor
  · intro hd
    by_cases hshort : f.length < 6
    · rw [decodeFull_of_short hshort] at hd
      cases hd
    by_cases hlen : f.length = declaredLength f + 6
    · obtain ⟨u1, u2, h, l, kh, kl, b, hl, rfl⟩ := exists_candidate hlen
      rw [decodeFull_candidate hl] at hd
      split at hd
      · cases hd
        exact ⟨h, l, kh, kl, hl, ‹_›, rfl⟩
      · cases hd
    · rw [decodeFull_of_mismatch (by omega) hlen] at hd
      cases hd
  · rintro ⟨h, l, kh, kl, hl, hk, rfl⟩
    rw [decodeFull_candidate hl, if_pos hk]

/-! ### ENC.FULL against the same layout (R93) -/

/-- The encoder writes the layout that the decoder reads. -/
theorem encodeFull_eq_candidate {t1 t2 h l kh kl : Byte} {body : List Byte}
    (hl : body.length = 256 * h.toNat + l.toNat)
    (hk : (checksum (t1 :: t2 :: h :: l :: body)).toNat = 256 * kh.toNat + kl.toNat) :
    encodeFull t1 t2 body = t1 :: t2 :: h :: l :: (body ++ [kh, kl]) := by
  have hlength : BitVec.ofNat 16 body.length = u16be h l := by rw [hl, u16be]
  have hchecksum : checksum (t1 :: t2 :: h :: l :: body) = u16be kh kl :=
    BitVec.eq_of_toNat_eq (by rw [hk, u16be_toNat])
  simp [encodeFull, stamp, fullHead, beBytes, hlength, hchecksum]

/-- A 16-bit value is its two wire bytes, high byte first (R40). -/
theorem toNat_eq_hiByte_loByte (v : Word16) : v.toNat = 256 * (hiByte v).toNat + (loByte v).toNat := by
  rw [← u16be_toNat, u16be_hiByte_loByte]

/-- Decode after encode, for every body that a length field can declare (R96). -/
theorem decodeFull_encodeFull (t1 t2 : Byte) {body : List Byte} (h : body.length ≤ 65535) :
    decodeFull (encodeFull t1 t2 body) = .full t1 t2 body := by
  have hl : body.length = 256 * (hiByte (BitVec.ofNat 16 body.length)).toNat
      + (loByte (BitVec.ofNat 16 body.length)).toNat := by
    rw [← toNat_eq_hiByte_loByte, BitVec.toNat_ofNat, Nat.mod_eq_of_lt (by omega)]
  have hk := toNat_eq_hiByte_loByte (checksum (t1 :: t2 :: hiByte (BitVec.ofNat 16 body.length)
    :: loByte (BitVec.ofNat 16 body.length) :: body))
  exact decodeFull_eq_full_iff.mpr ⟨_, _, _, _, hl, hk, encodeFull_eq_candidate hl hk⟩

/-- Encode after decode: a frame's bytes are the only ones that decode to it (R96). -/
theorem encodeFull_of_decodeFull {f : List Byte} {t1 t2 : Byte} {body : List Byte}
    (hd : decodeFull f = .full t1 t2 body) : encodeFull t1 t2 body = f := by
  obtain ⟨h, l, kh, kl, hl, hk, rfl⟩ := decodeFull_eq_full_iff.mp hd
  exact encodeFull_eq_candidate hl hk

/-! ### DEC.CTRL on the encoded control frames (R91, R92, R94) -/

@[simp] theorem decodeCtrl_ack (cfg : Config) : decodeCtrl cfg ackT1 cfg.ackT2 = some .ack := by
  rw [decodeCtrl, if_pos ⟨rfl, rfl⟩]

/-- A NAK's first byte is not an ACK's, and distinct codes name their reason (R11, R68). -/
theorem decodeCtrl_nak {cfg : Config} (hc : configOk cfg = true) (r : NakReason) :
    decodeCtrl cfg nakT1 (nakByte cfg.nakCode r) = some (.nak r) := by
  have hfirst : ¬ (nakT1 = ackT1 ∧ nakByte cfg.nakCode r = cfg.ackT2) := fun h => absurd h.1 (by decide)
  rw [decodeCtrl, if_neg hfirst, if_pos rfl, nakReasonOf_nakByte ((configOk_iff cfg).mp hc).nak r, Option.map_some]

/-! ### The obligations -/

/-- Settles O11: the equations of DEC.FULL, with the declared length read from the third and fourth byte. -/
theorem decFullDecidesEverySequence : Obligations.DecFullDecidesEverySequence := by
  intro s
  refine ⟨fun f hshort => ?_, fun t1 t2 h l rest h2 hne => ?_, fun t1 t2 h l kh kl body hl => ?_⟩
  · rw [exec_decFull, decodeFull_of_short hshort]
    rfl
  · have hmismatch : (t1 :: t2 :: h :: l :: rest).length ≠ declaredLength (t1 :: t2 :: h :: l :: rest) + 6 := by
      rw [declaredLength_cons]
      simp only [List.length_cons]
      omega
    rw [exec_decFull, decodeFull_of_mismatch (by simp only [List.length_cons]; omega) hmismatch]
    rfl
  · rw [exec_decFull, decodeFull_candidate hl]

/-- Settles O12: full frames through the layout that both sides share, control frames by R94's two pairs. -/
theorem encodeAndDecodeAreInverse : Obligations.EncodeAndDecodeAreInverse := by
  refine ⟨fun t1 t2 _ h => decodeFull_encodeFull t1 t2 h, fun _ _ _ _ => encodeFull_of_decodeFull, fun cfg hc => ⟨?_, ?_⟩⟩
  · rintro b0 b1 ⟨⟩
    exact decodeCtrl_ack cfg
  · rintro r b0 b1 ⟨⟩
    exact decodeCtrl_nak hc r

/-- Settles O8: the two fixed first bytes are 0x06 and 0x15. -/
theorem controlEncodersAnswerTwoBytes : Obligations.ControlEncodersAnswerTwoBytes := fun _ hc =>
  ⟨exec_encLinkAck hc, exec_encLinkNak hc⟩

end Sys2Proof.Machine

/-! PROOFS. The Frame Assembler's steps ASM.APPEND and ASM.EMIT_FULL (spec/42_assembler.md R104, R111). -/

namespace Sys2Proof.Machine

open Sys2Proof.Statements

/-! ### The append (R104) -/

/-- ASM.APPEND of a chunk that fits runs under every configuration that meets R11. -/
theorem exec_asmAppend {s : State} {chunk : List Byte} (hc : configOk s.cfg = true)
    (hfit : s.buf.length + chunk.length ≤ s.cfg.cap) : exec (.asmAppend chunk) s = .next (s.append chunk) := by
  calc exec (.asmAppend chunk) s
      = s.configured (if s.buf.length + chunk.length ≤ s.cfg.cap then .next (s.append chunk)
          else .fault .appendBeyondCapacity) := rfl
    _ = .next (s.append chunk) := by rw [State.configured_of_ok hc, if_pos hfit]

/-- From the append position the worker appends its piece and is in the loop (R101, R104). -/
theorem step_append {s : State} {piece rest : List Byte} (hc : configOk s.cfg = true) (hi : s.inputs = [])
    (hp : s.phase = .append piece rest) : step s = exec (.asmAppend piece) { s with phase := .loop rest } := by
  rw [step_worker hc hi, State.workerTurn, hp]

/-! ### The candidate at the front of the buffer -/

/-- A front that is no control frame is one on which DEC.CTRL finds nothing (R94, R105, R106). -/
theorem frontCtrl_eq_none_of_noControl {cfg : Config} {buf : List Byte} (h : noControl cfg buf) :
    frontCtrl cfg buf = none := by
  match buf, h with
  | [], _ => rfl
  | [_], _ => rfl
  | b0 :: b1 :: _, ⟨hack, hnak⟩ =>
    obtain ⟨h0, h1, -⟩ | ⟨r, h0, h1, -⟩ | ⟨-, -, hnone⟩ := decodeCtrl_cases cfg b0 b1
    · exact absurd ⟨h0, h1⟩ hack
    · exact absurd ⟨h0, r, h1⟩ hnak
    · exact hnone

section Candidate

variable {cfg : Config} {t1 t2 h l kh kl : Byte} {body rest : List Byte}

/-- A complete candidate of a length in range is decided by its checksum (R110, R111). R11's `LMAX + 6 ≤ C` leaves the second
length test of R108 nothing to refuse (D24). -/
theorem asmSelect_candidate (hc : configOk cfg = true) (hl : body.length = 256 * h.toNat + l.toNat)
    (hmax : body.length ≤ cfg.lmax) (hn : noControl cfg (t1 :: t2 :: h :: l :: (body ++ kh :: kl :: rest))) :
    asmSelect cfg (t1 :: t2 :: h :: l :: (body ++ kh :: kl :: rest)) =
      if (checksum (t1 :: t2 :: h :: l :: body)).toNat = 256 * kh.toNat + kl.toNat then .emitFull else .resyncCk := by
  obtain ⟨hdeclared, hcovered, hstored, -⟩ := candidate_fields t1 t2 h l kh kl body rest hl
  have hroom := ((configOk_iff cfg).mp hc).room
  have hlen : body.length + 6 ≤ (t1 :: t2 :: h :: l :: (body ++ kh :: kl :: rest)).length := by
    simp only [List.length_cons, List.length_append]
    omega
  simp only [asmSelect, frontCtrl_eq_none_of_noControl hn, hdeclared, hcovered]
  rw [if_neg (by omega), if_neg (by omega), if_neg (by omega), ← hstored]
  simp only [BitVec.toNat_inj, ne_eq, ite_not]

/-- What ASM.EMIT_FULL emits for a complete candidate: its type pair and its body (R111). -/
theorem candidateFrame_candidate (hl : body.length = 256 * h.toNat + l.toNat) :
    candidateFrame (t1 :: t2 :: h :: l :: (body ++ kh :: kl :: rest)) = .full t1 t2 body := by
  obtain ⟨hdeclared, -, -, hbody⟩ := candidate_fields t1 t2 h l kh kl body rest hl
  rw [candidateFrame, hdeclared, hbody, byteAt_succ, byteAt_zero, byteAt_zero]

/-- Behind a candidate's `L + 6` bytes stand the bytes that follow it (R64). -/
theorem drop_candidate :
    (t1 :: t2 :: h :: l :: (body ++ kh :: kl :: rest)).drop (body.length + 6) = rest := by
  simp

/-- Accepting a complete candidate emits it and leaves the bytes that follow it (R111). -/
theorem State.fireEmitFull_candidate {s : State} (hbuf : s.buf = t1 :: t2 :: h :: l :: (body ++ kh :: kl :: rest))
    (hl : body.length = 256 * h.toNat + l.toNat) :
    s.fireEmitFull =
      { s with buf := rest, events := s.events ++ [.frame (.full t1 t2 body)], pos := s.pos + (body.length + 6) } := by
  have hdeclared := (candidate_fields t1 t2 h l kh kl body rest hl).1
  calc s.fireEmitFull
      = { s with
          buf := s.buf.drop (declaredLength s.buf + 6)
          events := s.events ++ [.frame (candidateFrame s.buf)]
          pos := s.pos + (declaredLength s.buf + 6) } := rfl
    _ = _ := by rw [hbuf, hdeclared, candidateFrame_candidate hl, drop_candidate]

end Candidate

/-- Where the front selects ASM.EMIT_FULL, it fires. -/
theorem exec_asmEmitFull {s : State} (hc : configOk s.cfg = true) (hsel : asmSelect s.cfg s.buf = .emitFull) :
    exec .asmEmitFull s = .next s.fireEmitFull := by
  have hexec := exec_selected s hc
  rwa [hsel] at hexec

/-! ### The obligations -/

/-- Settles O21: the matching checksum selects ASM.EMIT_FULL, which accepts the candidate. -/
theorem emitFullEmitsTheFrame : Obligations.EmitFullEmitsTheFrame := by
  intro s t1 t2 h l kh kl body rest hc hbuf hl hmax hn hk
  have hsel : asmSelect s.cfg s.buf = .emitFull := by
    rw [hbuf] at hn ⊢
    rw [asmSelect_candidate hc hl hmax hn, if_pos hk]
  rw [exec_asmEmitFull hc hsel, State.fireEmitFull_candidate hbuf hl]

/-- Settles O24: the worker's step from the append position is the same ASM.APPEND, which does not read the position. -/
theorem appendAddsTheChunkAtTheBack : Obligations.AppendAddsTheChunkAtTheBack := by
  intro s chunk hc hfit
  refine ⟨exec_asmAppend hc hfit, fun rest hi hp => ?_⟩
  rw [step_append hc hi hp]
  exact exec_asmAppend (s := { s with phase := .loop rest }) hc hfit

end Sys2Proof.Machine

/-! PROOFS. The Message Dispatcher's received units that get a single control frame (spec/43_dispatcher.md R125 to R128, R130,
R131, R133 to R135, R138 to R140, R143, R145). -/

namespace Sys2Proof.Machine

open Sys2Proof.Statements

/-! ### The two single answers as bytes (R91, R92) -/

theorem ackOnly_eq (cfg : Config) : ackOnly cfg = [ackBytes cfg] := rfl

theorem nakOnly_eq (cfg : Config) (r : NakReason) : nakOnly cfg r = [nakBytes cfg r] := rfl

/-! ### Rows that only reply -/

section Reply

variable {s : State} {i : Instr}

/-- Under a configuration that meets R11, a row whose meaning is a reply runs, and its frames at the end of the outbound
sequence are all that it writes (R120). -/
theorem exec_reply {frames : List (List Byte)} (hc : configOk s.cfg = true)
    (hrow : exec i s = s.configured (.next (s.reply frames))) :
    exec i s = .next { s with replies := s.replies ++ frames } := by
  rw [hrow, State.configured_of_ok hc, State.reply]

/-- A row that answers with an ACK alone. -/
theorem exec_ackOnly (hc : configOk s.cfg = true)
    (hrow : exec i s = s.configured (.next (s.reply (ackOnly s.cfg)))) :
    exec i s = .next { s with replies := s.replies ++ [ackBytes s.cfg] } := by
  rw [exec_reply hc hrow, ackOnly_eq]

/-- A row that answers with a NAK alone. -/
theorem exec_nakOnly {r : NakReason} (hc : configOk s.cfg = true)
    (hrow : exec i s = s.configured (.next (s.reply (nakOnly s.cfg r)))) :
    exec i s = .next { s with replies := s.replies ++ [nakBytes s.cfg r] } := by
  rw [exec_reply hc hrow, nakOnly_eq]

end Reply

/-! ### The obligations -/

/-- Settles O33: each row's meaning is the reply of an ACK alone, whatever its operands. -/
theorem ackUnitsGetOneAck : Obligations.AckUnitsGetOneAck := by
  intro s hc
  refine ⟨?appAck, ?appNak, ?operStateResp, ?pureAckExtra, ?responseExtra, ?maxPayloadResp, ?dlAckExtra, ?utcResp,
    ?intAckExtra⟩
  case appAck => exact fun op args => exec_ackOnly hc rfl
  case appNak => exact fun op args => exec_ackOnly hc rfl
  case operStateResp => exact fun op args => exec_ackOnly hc rfl
  case pureAckExtra => exact fun op args => exec_ackOnly hc rfl
  case responseExtra => exact fun op args => exec_ackOnly hc rfl
  case maxPayloadResp => exact fun op args => exec_ackOnly hc rfl
  case dlAckExtra => exact fun op args => exec_ackOnly hc rfl
  case utcResp => exact fun op1 op2 payload => exec_ackOnly hc rfl
  case intAckExtra => exact fun op1 op2 payload => exec_ackOnly hc rfl

/-- Settles O34: each row's meaning is the reply of a NAK alone, and only the Basic one names the message type. -/
theorem unsupportedUnitsGetOneNak : Obligations.UnsupportedUnitsGetOneNak := by
  intro s hc
  refine ⟨?basicUnknown, ?dlUnknown, ?utcBadLength, ?intUnknown, ?unknownCategory⟩
  case basicUnknown => exact fun body => exec_nakOnly hc rfl
  case dlUnknown => exact fun body => exec_nakOnly hc rfl
  case utcBadLength => exact fun op1 op2 payload => exec_nakOnly hc rfl
  case intUnknown => exact fun body => exec_nakOnly hc rfl
  case unknownCategory => exact fun t1 t2 body => exec_nakOnly hc rfl

end Sys2Proof.Machine

/-! PROOFS. Encode and decode of whole units (spec/30_encoding.md R61 to R74, spec/41_wire_model.md R91 to R96): the frame
values that bytes carry, the rows that those frames are, and the two put together. -/

namespace Sys2Proof.Machine

open Sys2Proof.Statements

/-! ### The frame values that are read back from their bytes (R74, R90) -/

/-- A frame value that a decoder can find: a full frame's length fits its field, and its type pair is no control frame, which
would be tried first (R74). -/
def Readable (cfg : Config) : Frame → Prop
  | .ctrl _ => True
  | .full t1 t2 body => decodeCtrl cfg t1 t2 = none ∧ body.length ≤ maxBody

/-- The first type byte of the three categories begins no control frame (R10, R67). -/
@[simp] theorem decodeCtrl_catT1 (cfg : Config) (t2 : Byte) : decodeCtrl cfg catT1 t2 = none := by
  obtain ⟨h, -⟩ | ⟨r, h, -⟩ | ⟨-, -, h⟩ := decodeCtrl_cases cfg catT1 t2
  · exact absurd h (by decide)
  · exact absurd h (by decide)
  · exact h

theorem readable_category {cfg : Config} {c : Category} {body : List Byte} (h : body.length ≤ maxBody) :
    Readable cfg (.full catT1 (catT2 c) body) :=
  ⟨decodeCtrl_catT1 cfg _, h⟩

/-- A control frame's bytes are its two, and DEC.CTRL knows them (R91, R92, R94). -/
theorem frontCtrl_encodeFrame_ctrl {cfg : Config} (hc : configOk cfg = true) (c : Ctrl) :
    frontCtrl cfg (encodeFrame cfg (.ctrl c)) = some c := by
  cases c with
  | ack => exact decodeCtrl_ack cfg
  | nak r => exact decodeCtrl_nak hc r

/-- The only two bytes that DEC.CTRL reads as a control frame are that frame's own (R94). -/
theorem encodeFrame_ctrl_of_decodeCtrl {cfg : Config} {b0 b1 : Byte} {c : Ctrl} (h : decodeCtrl cfg b0 b1 = some c) :
    encodeFrame cfg (.ctrl c) = [b0, b1] := by
  obtain ⟨rfl, rfl, hack⟩ | ⟨r, rfl, rfl, -, hnak⟩ | ⟨-, -, hnone⟩ := decodeCtrl_cases cfg b0 b1
  · cases hack.symm.trans h; rfl
  · cases hnak.symm.trans h; rfl
  · cases hnone.symm.trans h

/-- A full frame's bytes begin with its type pair (R62). -/
theorem frontCtrl_encodeFull (cfg : Config) (t1 t2 : Byte) (body : List Byte) :
    frontCtrl cfg (encodeFull t1 t2 body) = decodeCtrl cfg t1 t2 := rfl

/-- Decode after encode, for frame values (R96). -/
theorem decodeFrame_encodeFrame {cfg : Config} (hc : configOk cfg = true) {fr : Frame} (hfr : Readable cfg fr) :
    decodeFrame cfg (encodeFrame cfg fr) = .ok fr := by
  cases fr with
  | ctrl c =>
    have hlen : (encodeFrame cfg (.ctrl c)).length = 2 := by cases c <;> rfl
    simp only [decodeFrame, frontCtrl_encodeFrame_ctrl hc, hlen, if_true]
  | full t1 t2 body =>
    obtain ⟨hctrl, hlen⟩ := hfr
    simp only [decodeFrame, encodeFrame, frontCtrl_encodeFull, hctrl, decodeFull_encodeFull t1 t2 hlen]

/-- Encode after decode, for frame values: what is found is readable, and the bytes are its own (R96). -/
theorem of_decodeFrame {cfg : Config} {bytes : List Byte} {fr : Frame} (h : decodeFrame cfg bytes = .ok fr) :
    Readable cfg fr ∧ encodeFrame cfg fr = bytes := by
  unfold decodeFrame at h
  split at h
  case h_1 c hfront =>
    split at h
    case isTrue hlen =>
      cases h
      match bytes, hlen with
      | [b0, b1], _ => exact ⟨trivial, encodeFrame_ctrl_of_decodeCtrl hfront⟩
    case isFalse => cases h
  case h_2 hfront =>
    split at h
    case h_1 t1 t2 body hd =>
      cases h
      have henc : encodeFull t1 t2 body = bytes := encodeFull_of_decodeFull hd
      obtain ⟨hi, lo, -, -, hlen, -, -⟩ := decodeFull_eq_full_iff.mp hd
      have := hi.isLt
      have := lo.isLt
      rw [← henc, frontCtrl_encodeFull] at hfront
      exact ⟨⟨hfront, by unfold maxBody; omega⟩, henc⟩
    case h_2 => cases h

/-! ### The row of a frame value (R71) -/

theorem classify_basic (cfg : Config) (body : List Byte) :
    classify cfg (.full catT1 (catT2 .basic) body) = classifyBasic cfg body := rfl

theorem classify_dataLink (cfg : Config) (body : List Byte) :
    classify cfg (.full catT1 (catT2 .dataLink) body) = classifyDataLink cfg body := rfl

theorem classify_intermediate (cfg : Config) (body : List Byte) :
    classify cfg (.full catT1 (catT2 .intermediate) body) = classifyIntermediate cfg body := rfl

/-- A type pair that has a category is the category's (R67). -/
theorem categoryOf_eq_some {t1 t2 : Byte} {c : Category} (h : categoryOf t1 t2 = some c) : t1 = catT1 ∧ t2 = catT2 c := by
  unfold categoryOf at h
  split at h
  · cases h; assumption
  · split at h
    · cases h; assumption
    · split at h
      · cases h; assumption
      · cases h

/-- A type pair has a category or none; a frame of a category has its type pair. -/
theorem frame_cases (fr : Frame) :
    (∃ c, fr = .ctrl c) ∨ (∃ c body, fr = .full catT1 (catT2 c) body) ∨
      ∃ t1 t2 body, categoryOf t1 t2 = none ∧ fr = .full t1 t2 body := by
  rcases fr with c | ⟨t1, t2, body⟩
  · exact .inl ⟨c, rfl⟩
  · cases h : categoryOf t1 t2 with
    | none => exact .inr (.inr ⟨t1, t2, body, h, rfl⟩)
    | some c =>
      obtain ⟨rfl, rfl⟩ := categoryOf_eq_some h
      exact .inr (.inl ⟨c, body, rfl⟩)

/-- A frame of no category is one row (R145). -/
theorem classify_unknownCategory (cfg : Config) {t1 t2 : Byte} (h : categoryOf t1 t2 = none) (body : List Byte) :
    classify cfg (.full t1 t2 body) = .unknownCategory t1 t2 body := by
  simp only [classify, h]

/-- What a row says of the frame it was found for: it is well-formed, received, and made from that frame. -/
structure IsRowOf (cfg : Config) (i : Instr) (fr : Frame) : Prop where
  wf : i.wf cfg = true
  received : i.isReceived = true
  frame : frameOf cfg i = some fr

theorem classifyBasic_isRowOf {cfg : Config} {body : List Byte} (h : body.length ≤ maxBody) :
    IsRowOf cfg (classifyBasic cfg body) (.full catT1 (catT2 .basic) body) := by
  cases body with
  | nil => exact ⟨rfl, rfl, rfl⟩
  | cons op args =>
    have hargs : args.length + 1 ≤ maxBody := h
    cases hop : basicOp cfg op with
    | none =>
      simp only [classifyBasic, hop]
      exact ⟨by simp [Instr.wf, lookupBasic, opcode1, hop, hargs], rfl, rfl⟩
    | some name =>
      cases name <;> simp only [classifyBasic, hop] <;> exact ⟨by simp [Instr.wf, hop, hargs], rfl, rfl⟩

theorem classifyDataLink_isRowOf {cfg : Config} {body : List Byte} (h : body.length ≤ maxBody) :
    IsRowOf cfg (classifyDataLink cfg body) (.full catT1 (catT2 .dataLink) body) := by
  cases body with
  | nil => exact ⟨rfl, rfl, rfl⟩
  | cons op args =>
    have hargs : args.length + 1 ≤ maxBody := h
    cases hop : dataLinkOp cfg op with
    | none =>
      simp only [classifyDataLink, hop]
      exact ⟨by simp [Instr.wf, lookupDataLink, opcode1, hop, hargs], rfl, rfl⟩
    | some name =>
      cases name <;> simp only [classifyDataLink, hop] <;> exact ⟨by simp [Instr.wf, hop, hargs], rfl, rfl⟩

theorem classifyIntermediate_isRowOf {cfg : Config} {body : List Byte} (h : body.length ≤ maxBody) :
    IsRowOf cfg (classifyIntermediate cfg body) (.full catT1 (catT2 .intermediate) body) := by
  match body, h with
  | [], _ => exact ⟨rfl, rfl, rfl⟩
  | [op1], _ => exact ⟨rfl, rfl, rfl⟩
  | op1 :: op2 :: payload, h =>
    have hpayload : payload.length + 2 ≤ maxBody := h
    cases hop : intermediateOp cfg op1 op2 with
    | none =>
      simp only [classifyIntermediate, hop]
      exact ⟨by simp [Instr.wf, lookupIntermediate, opcode1, opcode2, hop, hpayload], rfl, rfl⟩
    | some name =>
      cases name with
      | getUtcReq =>
        by_cases hp : payload = []
        · subst hp
          simp only [classifyIntermediate, hop, if_true]
          exact ⟨by simp [Instr.wf, hop], rfl, rfl⟩
        · simp only [classifyIntermediate, hop, hp, if_false]
          exact ⟨by simp [Instr.wf, hop, hp, hpayload], rfl, rfl⟩
      | utcResp | pureAckExtra | responseExtra =>
        simp only [classifyIntermediate, hop]
        exact ⟨by simp [Instr.wf, hop, hpayload], rfl, rfl⟩

/-- Every readable frame is a well-formed received unit that is made from it (R71). -/
theorem classify_isRowOf {cfg : Config} {fr : Frame} (hfr : Readable cfg fr) : IsRowOf cfg (classify cfg fr) fr := by
  obtain ⟨_ | r, rfl⟩ | ⟨c, body, rfl⟩ | ⟨t1, t2, body, hcat, rfl⟩ := frame_cases fr
  · exact ⟨rfl, rfl, rfl⟩
  · exact ⟨rfl, rfl, rfl⟩
  · cases c with
    | basic => exact classifyBasic_isRowOf hfr.2
    | dataLink => exact classifyDataLink_isRowOf hfr.2
    | intermediate => exact classifyIntermediate_isRowOf hfr.2
  · obtain ⟨hctrl, hlen⟩ := hfr
    rw [classify_unknownCategory cfg hcat]
    exact ⟨by simp [Instr.wf, hcat, hctrl, hlen], rfl, rfl⟩

/-! ### The frame of a row (R71) -/

/-- A look-up that finds nothing in a body leaves the body to the unknown row. -/
theorem classifyBasic_of_none {cfg : Config} {body : List Byte} (h : lookupBasic cfg body = none) :
    classifyBasic cfg body = .basicUnknown body := by
  cases body with
  | nil => rfl
  | cons op args => simp only [classifyBasic, show basicOp cfg op = none from h]

theorem classifyDataLink_of_none {cfg : Config} {body : List Byte} (h : lookupDataLink cfg body = none) :
    classifyDataLink cfg body = .dlUnknown body := by
  cases body with
  | nil => rfl
  | cons op args => simp only [classifyDataLink, show dataLinkOp cfg op = none from h]

theorem classifyIntermediate_of_none {cfg : Config} {body : List Byte} (h : lookupIntermediate cfg body = none) :
    classifyIntermediate cfg body = .intUnknown body := by
  match body, h with
  | [], _ => rfl
  | [_], _ => rfl
  | op1 :: op2 :: payload, h => simp only [classifyIntermediate, show intermediateOp cfg op1 op2 = none from h]

/-- Every well-formed received unit is the row of a readable frame, the one it is made from (R71). -/
theorem exists_readable_of_wf {cfg : Config} {i : Instr} (hwf : i.wf cfg = true) (hr : i.isReceived = true) :
    ∃ fr, frameOf cfg i = some fr ∧ Readable cfg fr ∧ classify cfg fr = i := by
  cases i with
  | linkAck => exact ⟨_, rfl, trivial, rfl⟩
  | linkNak r => exact ⟨_, rfl, trivial, rfl⟩
  | basicAppAck op args | basicAppNak op args | basicOperStateResp op args | basicPureackExtra op args
  | basicCustomerOverride op args | basicResponseExtra op args =>
    obtain ⟨hop, hlen⟩ := of_decide_eq_true hwf
    exact ⟨_, rfl, readable_category hlen, by simp only [classify_basic, classifyBasic, hop]⟩
  | basicUnknown body =>
    obtain ⟨hnone, hlen⟩ := of_decide_eq_true hwf
    exact ⟨_, rfl, readable_category hlen, classifyBasic_of_none hnone⟩
  | dlMaxPayloadReq op args | dlMaxPayloadResp op args =>
    obtain ⟨hop, hlen⟩ := of_decide_eq_true hwf
    exact ⟨_, rfl, readable_category hlen, by simp only [classify_dataLink, classifyDataLink, hop]⟩
  | dlAckExtra op args =>
    obtain ⟨hop | hop, hlen⟩ := of_decide_eq_true hwf <;>
      exact ⟨_, rfl, readable_category hlen, by simp only [classify_dataLink, classifyDataLink, hop]⟩
  | dlUnknown body =>
    obtain ⟨hnone, hlen⟩ := of_decide_eq_true hwf
    exact ⟨_, rfl, readable_category hlen, classifyDataLink_of_none hnone⟩
  | intGetUtcReq op1 op2 =>
    have hop := of_decide_eq_true hwf
    exact ⟨_, rfl, readable_category (show 2 ≤ maxBody by decide), by
      simp only [classify_intermediate, classifyIntermediate, hop, if_true]⟩
  | intGetUtcReqBadlen op1 op2 payload =>
    obtain ⟨hop, hne, hlen⟩ := of_decide_eq_true hwf
    exact ⟨_, rfl, readable_category hlen, by simp only [classify_intermediate, classifyIntermediate, hop, hne, if_false]⟩
  | intUtcResp op1 op2 payload =>
    obtain ⟨hop, hlen⟩ := of_decide_eq_true hwf
    exact ⟨_, rfl, readable_category hlen, by simp only [classify_intermediate, classifyIntermediate, hop]⟩
  | intAckExtra op1 op2 payload =>
    obtain ⟨hop | hop, hlen⟩ := of_decide_eq_true hwf <;>
      exact ⟨_, rfl, readable_category hlen, by simp only [classify_intermediate, classifyIntermediate, hop]⟩
  | intUnknown body =>
    obtain ⟨hnone, hlen⟩ := of_decide_eq_true hwf
    exact ⟨_, rfl, readable_category hlen, classifyIntermediate_of_none hnone⟩
  | unknownCategory t1 t2 body =>
    obtain ⟨hcat, hctrl, hlen⟩ := of_decide_eq_true hwf
    exact ⟨_, rfl, ⟨hctrl, hlen⟩, classify_unknownCategory cfg hcat body⟩
  | _ => cases hr

/-! ### The encoded templates (R73) -/

/-- A term that carries a readable frame is encoded to bytes that decode to that frame (R96). -/
theorem decodeFrame_of_encode {cfg : Config} (hc : configOk cfg = true) {i : Instr} {fr : Frame} {bytes : List Byte}
    (hfr : Readable cfg fr) (hi : frameOf cfg i = some fr) (he : encode cfg i = some bytes) :
    decodeFrame cfg bytes = .ok fr := by
  rw [encode, hi] at he
  cases he
  exact decodeFrame_encodeFrame hc hfr

/-! ### The layout of ENC.FULL in the words of R93 -/

/-- The two bytes of a length that fits its field, high byte first (R40, R93). -/
theorem beBytes_length_field {n : Nat} (h : n ≤ 65535) :
    beBytes (BitVec.ofNat 16 n) = [BitVec.ofNat 8 (n / 256), BitVec.ofNat 8 n] := by
  have hn : (BitVec.ofNat 16 n).toNat = n := by rw [BitVec.toNat_ofNat, Nat.mod_eq_of_lt (by omega)]
  simp only [beBytes, hiByte, loByte, hn]

/-- ENC.FULL writes R93's layout. -/
theorem encodeFull_eq_fullBytes (t1 t2 : Byte) {body : List Byte} (h : body.length ≤ 65535) :
    encodeFull t1 t2 body = fullBytes t1 t2 body := by
  rw [encodeFull, fullHead, beBytes_length_field h]
  rfl

/-- ENC.FULL of a body that a length field can declare runs from every state and writes the answer alone (R93). -/
theorem exec_encFull (t1 t2 : Byte) {body : List Byte} (h : body.length ≤ 65535) (s : State) :
    exec (.encFull t1 t2 body) s = .next (s.answer (.bytes (encodeFull t1 t2 body))) :=
  if_pos h

/-- DEC.CTRL runs under every configuration that meets R11 and writes the answer alone (R94). -/
theorem exec_decCtrl {s : State} (hc : configOk s.cfg = true) (b0 b1 : Byte) :
    exec (.decCtrl b0 b1) s = .next { s with result := .ctrl (decodeCtrl s.cfg b0 b1) } :=
  State.configured_of_ok hc _

/-! ### The obligations -/

/-- Settles O13: a well-formed unit is the row of a readable frame, whose bytes decode to it. -/
theorem decodeOfEncodedUnit : Obligations.DecodeOfEncodedUnit := by
  intro cfg i hc hwf hr
  obtain ⟨fr, hframe, hread, hrow⟩ := exists_readable_of_wf hwf hr
  refine ⟨encodeFrame cfg fr, by rw [encode, hframe, Option.map_some], ?_⟩
  rw [decode, decodeFrame_encodeFrame hc hread, Except.map, hrow]

/-- Settles O14: the bytes are those of a readable frame, and the frame's row carries it. -/
theorem encodeOfDecodedBytes : Obligations.EncodeOfDecodedBytes := by
  intro cfg i bytes _ hd
  rw [decode] at hd
  cases hfr : decodeFrame cfg bytes with
  | error e => rw [hfr] at hd; cases hd
  | ok fr =>
    rw [hfr] at hd
    cases hd
    obtain ⟨hread, hbytes⟩ := of_decodeFrame hfr
    obtain ⟨hwf, hreceived, hframe⟩ := classify_isRowOf hread
    exact ⟨hwf, hreceived, by rw [encode, hframe, Option.map_some, hbytes]⟩

/-- Settles O15: each template carries a readable frame; the UTC-time response does where it is encoded at all. -/
theorem templatesDecodeToTheirFrames : Obligations.TemplatesDecodeToTheirFrames := by
  intro cfg hc
  refine ⟨fun bytes he => ?_, fun r bytes he => ?_, fun e bytes he => ?_, fun bytes he => ?_, fun bytes he => ?_⟩
  · rw [decode, decodeFrame_of_encode hc (fr := .ctrl .ack) trivial rfl he]; rfl
  · rw [decode, decodeFrame_of_encode hc (fr := .ctrl (.nak r)) trivial rfl he]; rfl
  · exact decodeFrame_of_encode hc (readable_category (c := .basic) (by simp [maxBody])) rfl he
  · exact decodeFrame_of_encode hc (readable_category (c := .dataLink) (by simp [maxBody])) rfl he
  · by_cases hfit : cfg.utcN + 2 ≤ maxBody
    · have hlen : (utcBody cfg).length ≤ maxBody := by
        rwa [utcBody, List.length_cons, List.length_cons, List.length_replicate]
      have hframe : frameOf cfg .txIntUtcResp = some (.full catT1 (catT2 .intermediate) (utcBody cfg)) := if_pos hfit
      exact decodeFrame_of_encode hc (readable_category (c := .intermediate) hlen) hframe he
    · rw [encode, show frameOf cfg .txIntUtcResp = none from if_neg hfit] at he
      cases he

/-- Settles O9: the length field of ENC.FULL is the body's length, high byte first. -/
theorem encFullStampsTheFrame : Obligations.EncFullStampsTheFrame := by
  intro s t1 t2 body h
  have hlow : BitVec.ofNat 8 (body.length % 256) = BitVec.ofNat 8 body.length := by
    apply BitVec.eq_of_toNat_eq
    simp only [BitVec.toNat_ofNat]
    omega
  refine ⟨_, rfl, ?_⟩
  rw [exec_encFull t1 t2 h, encodeFull_eq_fullBytes t1 t2 h, hlow]
  rfl

/-- Settles O10: DEC.CTRL on an ACK's pair, on a NAK's, and on a pair that is neither. -/
theorem decCtrlAcceptsExactPairs : Obligations.DecCtrlAcceptsExactPairs := by
  intro s b0 b1 hc
  rw [exec_decCtrl hc]
  refine ⟨?ack, ?nak, ?neither⟩
  case ack =>
    rintro rfl rfl
    rw [show decodeCtrl s.cfg 0x06 s.cfg.ackT2 = some .ack from decodeCtrl_ack s.cfg]
  case nak =>
    rintro r rfl rfl
    rw [show decodeCtrl s.cfg 0x15 (nakByte s.cfg.nakCode r) = some (.nak r) from decodeCtrl_nak hc r]
  case neither =>
    intro hn
    rw [show decodeCtrl s.cfg b0 b1 = none from frontCtrl_eq_none_of_noControl hn]

/-- Settles O16: each word is a closed term that the decoder evaluates. -/
theorem writtenOutWordsDecode : Obligations.WrittenOutWordsDecode := by
  refine ⟨by decide, by decide, by decide, by decide, by decide, by decide⟩

end Sys2Proof.Machine

/-! PROOFS. The Message Dispatcher as a whole (spec/43_dispatcher.md R120 to R146): DISPATCH, the rows that agree with it, the
rows that answer with a data reply, and the emitted templates. -/

namespace Sys2Proof.Machine

open Sys2Proof.Statements

/-! ### The data replies as bytes (R129, R132, R137) -/

theorem ackThen_eq (cfg : Config) (frame : List Byte) : ackThen cfg frame = [ackBytes cfg, frame] := rfl

theorem appAckFrame_eq (cfg : Config) (echo : Byte) :
    appAckFrame cfg echo = fullBytes 0x08 0x01 [cfg.opBasicAppAck, echo] :=
  encodeFull_eq_fullBytes _ _ (by simp [appAckBody])

theorem maxPayloadFrame_eq (cfg : Config) :
    maxPayloadFrame cfg = fullBytes 0x08 0x03 [cfg.opDlMaxPayloadResp, cfg.maxPayloadClass] :=
  encodeFull_eq_fullBytes _ _ (by simp [maxPayloadBody])

/-- A body of two bytes declares 2 (R93). -/
theorem fullBytes_pair (t1 t2 a b : Byte) : fullBytes t1 t2 [a, b] = stamped [t1, t2, 0x00, 0x02, a, b] := by
  simp [fullBytes]

@[simp] theorem utcBody_length (cfg : Config) : (utcBody cfg).length = cfg.utcN + 2 := by
  rw [utcBody, List.length_cons, List.length_cons, List.length_replicate]

/-- Where its body fits a frame, the UTC-time response is that frame (R93, R137). -/
theorem utcFrame_eq {cfg : Config} (h : cfg.utcN + 2 ≤ 65535) : utcFrame cfg = fullBytes 0x08 0x02 (utcBody cfg) := by
  rw [utcFrame, if_pos h]
  exact encodeFull_eq_fullBytes _ _ (by rwa [utcBody_length])

/-- The UTC-time response carries the pair of its opcode and zero bytes, where its body fits a frame (R137). -/
theorem utcReply_utcFrame (cfg : Config) : utcReply cfg (utcFrame cfg) := by
  intro h
  refine ⟨BitVec.ofNat 8 ((cfg.utcN + 2) / 256), BitVec.ofNat 8 (cfg.utcN + 2), ?_, ?_⟩
  · simp only [BitVec.toNat_ofNat]
    omega
  · rw [utcFrame_eq h, fullBytes, utcBody_length]
    rfl

/-! ### DISPATCH by category (R122) -/

/-- DISPATCH runs under every configuration that meets R11 and appends its answer to the outbound sequence (R120). -/
theorem exec_dispatch {s : State} (hc : configOk s.cfg = true) (fr : Frame) :
    exec (.dispatch fr) s = .next { s with replies := s.replies ++ dispatchFrame s.cfg fr } :=
  exec_reply hc rfl

theorem dispatchFrame_unknownCategory (cfg : Config) {t1 t2 : Byte} (h : categoryOf t1 t2 = none) (body : List Byte) :
    dispatchFrame cfg (.full t1 t2 body) = [nakBytes cfg .requestNotSupported] := by
  simp only [dispatchFrame, h, nakOnly_eq]

/-! ### The answer of each class (R144) -/

section Answers

variable {cfg : Config} {body : List Byte}

theorem dispatchBasic_ack (h : (lookupBasic cfg body).map basicClass = some .pureAck ∨
    (lookupBasic cfg body).map basicClass = some .response) : dispatchBasic cfg body = [ackBytes cfg] := by
  cases body with
  | nil => obtain h | h := h <;> cases h
  | cons op args =>
    have hop : (basicOp cfg op).map basicClass = some .pureAck ∨ (basicOp cfg op).map basicClass = some .response := h
    obtain hop | hop := hop <;> simp only [dispatchBasic, hop, ackOnly_eq]

theorem dispatchBasic_customerOverride {op : Byte} {args : List Byte}
    (h : (basicOp cfg op).map basicClass = some .customerOverride) :
    dispatchBasic cfg (op :: args) = [ackBytes cfg, fullBytes 0x08 0x01 [cfg.opBasicAppAck, op]] := by
  simp only [dispatchBasic, h, ackThen_eq, appAckFrame_eq]

theorem dispatchBasic_none (h : lookupBasic cfg body = none) :
    dispatchBasic cfg body = [nakBytes cfg .unsupportedMessageType] := by
  cases body with
  | nil => rfl
  | cons op args =>
    have hop : basicOp cfg op = none := h
    simp only [dispatchBasic, hop, Option.map_none, nakOnly_eq]

theorem dispatchDataLink_maxPayloadReq (h : (lookupDataLink cfg body).map dataLinkClass = some .maxPayloadReq) :
    dispatchDataLink cfg body =
      [ackBytes cfg, fullBytes 0x08 0x03 [cfg.opDlMaxPayloadResp, cfg.maxPayloadClass]] := by
  simp only [dispatchDataLink, h, ackThen_eq, maxPayloadFrame_eq]

/-- Any other class that the DataLink table holds is acknowledged; those it never holds do not come up (R69). -/
theorem dispatchDataLink_ack {c : OpClass} (h : (lookupDataLink cfg body).map dataLinkClass = some c)
    (hc : c ≠ .maxPayloadReq) : dispatchDataLink cfg body = [ackBytes cfg] := by
  obtain ⟨name, hname, rfl⟩ := Option.map_eq_some_iff.mp h
  simp only [dispatchDataLink, hname, Option.map_some]
  cases name with
  | maxPayloadReq => exact absurd rfl hc
  | maxPayloadResp | pureAckExtra | responseExtra => rfl

theorem dispatchDataLink_none (h : lookupDataLink cfg body = none) :
    dispatchDataLink cfg body = [nakBytes cfg .requestNotSupported] := by
  simp only [dispatchDataLink, h, Option.map_none, nakOnly_eq]

theorem dispatchIntermediate_getUtcReq (h : (lookupIntermediate cfg body).map intermediateClass = some .getUtcReq) :
    dispatchIntermediate cfg body =
      if body.length = 2 then [ackBytes cfg, utcFrame cfg] else [nakBytes cfg .requestNotSupported] := by
  simp only [dispatchIntermediate, h, ackThen_eq, nakOnly_eq]

/-- Any other class that the Intermediate table holds is acknowledged; those it never holds do not come up (R69). -/
theorem dispatchIntermediate_ack {c : OpClass} (h : (lookupIntermediate cfg body).map intermediateClass = some c)
    (hc : c ≠ .getUtcReq) : dispatchIntermediate cfg body = [ackBytes cfg] := by
  obtain ⟨name, hname, rfl⟩ := Option.map_eq_some_iff.mp h
  simp only [dispatchIntermediate, hname, Option.map_some]
  cases name with
  | getUtcReq => exact absurd rfl hc
  | utcResp | pureAckExtra | responseExtra => rfl

theorem dispatchIntermediate_none (h : lookupIntermediate cfg body = none) :
    dispatchIntermediate cfg body = [nakBytes cfg .requestNotSupported] := by
  simp only [dispatchIntermediate, h, Option.map_none, nakOnly_eq]

/-! ### All that DISPATCH can answer to a full frame (R141, R142) -/

/-- An ACK alone, a NAK alone, or an ACK and then a full frame; of the bytes of a response too long to encode nothing is known
(log 3). -/
def ShortAnswer (cfg : Config) (out : List (List Byte)) : Prop :=
  out = [ackBytes cfg] ∨ (∃ r, out = [nakBytes cfg r]) ∨
    ∃ f, out = [ackBytes cfg, f] ∧ (65535 < cfg.utcN + 2 ∨ ∃ a b data, f = fullBytes a b data ∧ data.length ≤ 65535)

theorem shortAnswer_fullBytes (a b : Byte) {data : List Byte} (h : data.length ≤ 65535) :
    ShortAnswer cfg [ackBytes cfg, fullBytes a b data] :=
  .inr (.inr ⟨_, rfl, .inr ⟨a, b, data, rfl, h⟩⟩)

theorem shortAnswer_utcFrame : ShortAnswer cfg [ackBytes cfg, utcFrame cfg] := by
  by_cases h : cfg.utcN + 2 ≤ 65535
  · rw [utcFrame_eq h]
    exact shortAnswer_fullBytes _ _ (by rwa [utcBody_length])
  · exact .inr (.inr ⟨_, rfl, .inl (by omega)⟩)

theorem dispatchBasic_short : ShortAnswer cfg (dispatchBasic cfg body) := by
  cases body with
  | nil => exact .inr (.inl ⟨_, rfl⟩)
  | cons op args =>
    cases hop : basicOp cfg op with
    | none => exact .inr (.inl ⟨_, dispatchBasic_none hop⟩)
    | some name =>
      cases name with
      | customerOverride =>
        rw [dispatchBasic_customerOverride (by rw [hop]; rfl)]
        exact shortAnswer_fullBytes _ _ (by simp)
      | responseExtra => exact .inl (dispatchBasic_ack (.inr (congrArg (Option.map basicClass) hop)))
      | appAck | appNak | operStateResp | pureAckExtra =>
        exact .inl (dispatchBasic_ack (.inl (congrArg (Option.map basicClass) hop)))

theorem dispatchDataLink_short : ShortAnswer cfg (dispatchDataLink cfg body) := by
  cases hop : lookupDataLink cfg body with
  | none => exact .inr (.inl ⟨_, dispatchDataLink_none hop⟩)
  | some name =>
    have hclass : (lookupDataLink cfg body).map dataLinkClass = some (dataLinkClass name) := by rw [hop]; rfl
    by_cases hreq : dataLinkClass name = .maxPayloadReq
    · rw [dispatchDataLink_maxPayloadReq (hclass.trans (congrArg some hreq))]
      exact shortAnswer_fullBytes _ _ (by simp)
    · exact .inl (dispatchDataLink_ack hclass hreq)

theorem dispatchIntermediate_short : ShortAnswer cfg (dispatchIntermediate cfg body) := by
  cases hop : lookupIntermediate cfg body with
  | none => exact .inr (.inl ⟨_, dispatchIntermediate_none hop⟩)
  | some name =>
    have hclass : (lookupIntermediate cfg body).map intermediateClass = some (intermediateClass name) := by rw [hop]; rfl
    by_cases hreq : intermediateClass name = .getUtcReq
    · rw [dispatchIntermediate_getUtcReq (hclass.trans (congrArg some hreq))]
      split
      · exact shortAnswer_utcFrame
      · exact .inr (.inl ⟨_, rfl⟩)
    · exact .inl (dispatchIntermediate_ack hclass hreq)

theorem dispatchFrame_short (cfg : Config) (t1 t2 : Byte) (body : List Byte) :
    ShortAnswer cfg (dispatchFrame cfg (.full t1 t2 body)) := by
  cases hcat : categoryOf t1 t2 with
  | none => exact .inr (.inl ⟨_, dispatchFrame_unknownCategory cfg hcat body⟩)
  | some c =>
    obtain ⟨rfl, rfl⟩ := categoryOf_eq_some hcat
    cases c with
    | basic => exact dispatchBasic_short
    | dataLink => exact dispatchDataLink_short
    | intermediate => exact dispatchIntermediate_short

/-! ### What DISPATCH reads of a body (R123) -/

theorem dispatchBasic_congr {body' : List Byte} (h : opcode1 body = opcode1 body') :
    dispatchBasic cfg body = dispatchBasic cfg body' := by
  match body, body', h with
  | [], [], _ => rfl
  | op :: _, op' :: _, h =>
    obtain rfl : op = op' := Option.some.inj h
    rfl

theorem dispatchDataLink_congr {body' : List Byte} (h : opcode1 body = opcode1 body') :
    dispatchDataLink cfg body = dispatchDataLink cfg body' := by
  rw [dispatchDataLink, dispatchDataLink, lookupDataLink, lookupDataLink, h]

theorem dispatchIntermediate_congr {body' : List Byte} (h1 : opcode1 body = opcode1 body')
    (h2 : opcode2 body = opcode2 body') (hlen : body.length = body'.length) :
    dispatchIntermediate cfg body = dispatchIntermediate cfg body' := by
  rw [dispatchIntermediate, dispatchIntermediate, lookupIntermediate, lookupIntermediate, h1, h2, hlen]

end Answers

/-! ### The rows agree with DISPATCH (R71, R122) -/

theorem exec_classifyBasic (body : List Byte) (s : State) :
    exec (classifyBasic s.cfg body) s = s.configured (.next (s.reply (dispatchBasic s.cfg body))) := by
  cases body with
  | nil => rfl
  | cons op args =>
    cases hop : basicOp s.cfg op with
    | none => simp only [classifyBasic, dispatchBasic, hop, Option.map_none]; rfl
    | some name => cases name <;> simp only [classifyBasic, dispatchBasic, hop, Option.map_some] <;> rfl

theorem exec_classifyDataLink (body : List Byte) (s : State) :
    exec (classifyDataLink s.cfg body) s = s.configured (.next (s.reply (dispatchDataLink s.cfg body))) := by
  cases body with
  | nil => rfl
  | cons op args =>
    have hlook : lookupDataLink s.cfg (op :: args) = dataLinkOp s.cfg op := rfl
    cases hop : dataLinkOp s.cfg op with
    | none => simp only [classifyDataLink, dispatchDataLink, hlook, hop, Option.map_none]; rfl
    | some name => cases name <;> simp only [classifyDataLink, dispatchDataLink, hlook, hop, Option.map_some] <;> rfl

theorem exec_classifyIntermediate (body : List Byte) (s : State) :
    exec (classifyIntermediate s.cfg body) s = s.configured (.next (s.reply (dispatchIntermediate s.cfg body))) := by
  match body with
  | [] => rfl
  | [_] => rfl
  | op1 :: op2 :: payload =>
    have hlook : lookupIntermediate s.cfg (op1 :: op2 :: payload) = intermediateOp s.cfg op1 op2 := rfl
    cases hop : intermediateOp s.cfg op1 op2 with
    | none => simp only [classifyIntermediate, dispatchIntermediate, hlook, hop, Option.map_none]; rfl
    | some name =>
      cases name with
      | getUtcReq =>
        cases payload <;> simp only [classifyIntermediate, dispatchIntermediate, hlook, hop, Option.map_some] <;> rfl
      | utcResp | pureAckExtra | responseExtra =>
        simp only [classifyIntermediate, dispatchIntermediate, hlook, hop, Option.map_some]; rfl

/-- The row that a frame is does what DISPATCH of the frame does. -/
theorem exec_classify (fr : Frame) (s : State) : exec (classify s.cfg fr) s = exec (.dispatch fr) s := by
  obtain ⟨_ | r, rfl⟩ | ⟨c, body, rfl⟩ | ⟨t1, t2, body, hcat, rfl⟩ := frame_cases fr
  · rfl
  · rfl
  · cases c with
    | basic => exact exec_classifyBasic body s
    | dataLink => exact exec_classifyDataLink body s
    | intermediate => exact exec_classifyIntermediate body s
  · rw [classify_unknownCategory s.cfg hcat]
    calc exec (.unknownCategory t1 t2 body) s
        = s.configured (.next (s.reply [nakBytes s.cfg .requestNotSupported])) := rfl
      _ = exec (.dispatch (.full t1 t2 body)) s := by rw [← dispatchFrame_unknownCategory s.cfg hcat body]; rfl

theorem classifyBasic_eq_appAck_iff {cfg : Config} {op : Byte} {args : List Byte} :
    classifyBasic cfg (op :: args) = .basicAppAck op args ↔ basicOp cfg op = some .appAck := by
  cases hop : basicOp cfg op with
  | none => simp [classifyBasic, hop]
  | some name => cases name <;> simp [classifyBasic, hop]

theorem classifyIntermediate_eq_utcResp_iff {cfg : Config} {op1 op2 : Byte} {payload : List Byte} :
    classifyIntermediate cfg (op1 :: op2 :: payload) = .intUtcResp op1 op2 payload ↔
      intermediateOp cfg op1 op2 = some .utcResp := by
  cases hop : intermediateOp cfg op1 op2 with
  | none => simp [classifyIntermediate, hop]
  | some name => cases name <;> cases payload <;> simp [classifyIntermediate, hop]

/-- The key `OP_DL_MAX_PAYLOAD_RESP` is the max-payload response's: no other name has its class (R11, R70). -/
theorem dataLinkOp_maxPayloadResp {cfg : Config} (hc : configOk cfg = true) :
    dataLinkOp cfg cfg.opDlMaxPayloadResp = some .maxPayloadResp := by
  obtain ⟨name, hname, hclass⟩ := Option.map_eq_some_iff.mp ((configOk_iff cfg).mp hc).maxPayloadResp
  cases name with
  | maxPayloadResp => exact hname
  | maxPayloadReq | pureAckExtra | responseExtra => cases hclass

/-! ### The obligations -/

/-- Settles O39: the answer of each class, appended to the outbound sequence. -/
theorem dispatchFollowsTheOutcomeTable : Obligations.DispatchFollowsTheOutcomeTable := by
  intro s hc
  have hdispatch : ∀ {fr : Frame} {out : List (List Byte)}, dispatchFrame s.cfg fr = out →
      exec (.dispatch fr) s = .next { s with replies := s.replies ++ out } := fun h => h ▸ exec_dispatch hc _
  refine ⟨?ctrl, ?unknownCategory, ?basicAck, ?customerOverride, ?basicNone, ?maxPayloadReq, ?dataLinkAck, ?dataLinkNone,
    ?getUtcReq, ?intermediateAck, ?intermediateNone⟩
  case ctrl =>
    intro c
    rw [exec_dispatch hc, show dispatchFrame s.cfg (.ctrl c) = [] from rfl, List.append_nil]
  case unknownCategory => exact fun t1 t2 body hcat => hdispatch (dispatchFrame_unknownCategory s.cfg hcat body)
  case basicAck => exact fun body h => hdispatch (dispatchBasic_ack h)
  case customerOverride => exact fun op args h => hdispatch (dispatchBasic_customerOverride (args := args) h)
  case basicNone => exact fun body h => hdispatch (dispatchBasic_none h)
  case maxPayloadReq => exact fun body h => hdispatch (dispatchDataLink_maxPayloadReq h)
  case dataLinkAck => exact fun body c h hne => hdispatch (dispatchDataLink_ack h hne)
  case dataLinkNone => exact fun body h => hdispatch (dispatchDataLink_none h)
  case getUtcReq =>
    intro body h
    have hanswer := dispatchIntermediate_getUtcReq h
    refine ⟨fun hlen => ⟨utcFrame s.cfg, utcReply_utcFrame s.cfg, ?_⟩, fun hlen => ?_⟩
    · rw [if_pos hlen] at hanswer
      exact hdispatch hanswer
    · rw [if_neg hlen] at hanswer
      exact hdispatch hanswer
  case intermediateAck => exact fun body c h hne => hdispatch (dispatchIntermediate_ack h hne)
  case intermediateNone => exact fun body h => hdispatch (dispatchIntermediate_none h)

/-- Settles O40: each row answers as its category's dispatch does, and the three named keys name their rows. -/
theorem rowsAgreeWithDispatch : Obligations.RowsAgreeWithDispatch := by
  intro s fr hc
  refine ⟨exec_classify fr s, ?appAck, ?maxPayloadResp, ?utcResp⟩
  case appAck =>
    rintro op args rfl
    exact classifyBasic_eq_appAck_iff.trans (basicOp_appAck_iff hc op)
  case maxPayloadResp =>
    rintro args rfl
    show classifyDataLink s.cfg (s.cfg.opDlMaxPayloadResp :: args) = _
    simp only [classifyDataLink, dataLinkOp_maxPayloadResp hc]
  case utcResp =>
    rintro a b payload rfl
    exact classifyIntermediate_eq_utcResp_iff.trans (intermediateOp_utcResp_iff hc a b)

/-- Settles O41: whatever the category, the answer is one control frame or an ACK and a full frame. -/
theorem everyFullFrameIsAnswered : Obligations.EveryFullFrameIsAnswered := fun s t1 t2 body hc =>
  ⟨_, exec_dispatch hc _, dispatchFrame_short s.cfg t1 t2 body⟩

/-- Settles O42: Basic and DataLink frames are answered by their first opcode byte, Intermediate frames by both and their
length, other frames by their type pair alone. -/
theorem dispatchIgnoresThePayload : Obligations.DispatchIgnoresThePayload := by
  intro s t1 t2 body body' hlen h1 h2
  have hanswer : dispatchFrame s.cfg (.full t1 t2 body) = dispatchFrame s.cfg (.full t1 t2 body') := by
    cases hcat : categoryOf t1 t2 with
    | none => rw [dispatchFrame_unknownCategory s.cfg hcat, dispatchFrame_unknownCategory s.cfg hcat]
    | some c =>
      obtain ⟨rfl, rfl⟩ := categoryOf_eq_some hcat
      cases c with
      | basic => exact dispatchBasic_congr h1
      | dataLink => exact dispatchDataLink_congr h1
      | intermediate => exact dispatchIntermediate_congr h1 (h2 rfl rfl) hlen
  calc exec (.dispatch (.full t1 t2 body)) s
      = s.configured (.next (s.reply (dispatchFrame s.cfg (.full t1 t2 body)))) := rfl
    _ = exec (.dispatch (.full t1 t2 body')) s := by rw [hanswer]; rfl

/-- Settles O35: the answer to a control frame is the empty sequence. -/
theorem controlUnitsGetNoReply : Obligations.ControlUnitsGetNoReply := by
  intro s hc
  refine ⟨?_, fun r => ?_⟩
  · rw [exec_reply (i := .linkAck) (frames := []) hc rfl, List.append_nil]
  · rw [exec_reply (i := .linkNak r) (frames := []) hc rfl, List.append_nil]

/-- Settles O36: the application acknowledgement has a body of two bytes, the second the override's opcode. -/
theorem customerOverrideGetsAckThenEcho : Obligations.CustomerOverrideGetsAckThenEcho := by
  intro s op args hc
  rw [exec_reply (i := .basicCustomerOverride op args) hc rfl, ackThen_eq, appAckFrame_eq, fullBytes_pair]

/-- Settles O37: the max-payload response has a body of two bytes, the second the configured class. -/
theorem maxPayloadRequestGetsAckThenClass : Obligations.MaxPayloadRequestGetsAckThenClass := by
  intro s op args hc
  rw [exec_reply (i := .dlMaxPayloadReq op args) hc rfl, ackThen_eq, maxPayloadFrame_eq, fullBytes_pair]

/-- Settles O38: the row's second frame is the configured UTC-time response. -/
theorem utcRequestGetsAckThenZeroTime : Obligations.UtcRequestGetsAckThenZeroTime := fun s _ _ hc =>
  ⟨utcFrame s.cfg, utcReply_utcFrame s.cfg, exec_reply hc rfl⟩

/-- Settles O43: each template's meaning is the reply of its one frame. -/
theorem templatesEmitTheirBytes : Obligations.TemplatesEmitTheirBytes := by
  intro s hc
  refine ⟨exec_reply hc rfl, fun r => exec_reply hc rfl, fun e => ?_, ?_,
    utcFrame s.cfg, utcReply_utcFrame s.cfg, exec_reply hc rfl⟩
  · rw [exec_reply (i := .txBasicAppAck e) hc rfl, appAckFrame_eq, fullBytes_pair]
  · rw [exec_reply (i := .txDlMaxPayloadResp) hc rfl, maxPayloadFrame_eq, fullBytes_pair]

end Sys2Proof.Machine

/-! PROOFS. The Frame Assembler's other steps, one by one (spec/42_assembler.md R102, R105 to R110, R117), and the uses that
the spec gives no step. -/

namespace Sys2Proof.Machine

open Sys2Proof.Statements

/-! ### The front of the buffer in the words of the rules (R67, R105, R106) -/

/-- DEC.CTRL finds nothing at the front exactly where the rules see no control frame. -/
theorem frontCtrl_eq_none_iff (cfg : Config) (buf : List Byte) : frontCtrl cfg buf = none ↔ noControl cfg buf := by
  refine ⟨fun h => ?_, frontCtrl_eq_none_of_noControl⟩
  match buf, h with
  | [], _ => exact trivial
  | [_], _ => exact trivial
  | b0 :: b1 :: _, h =>
    have hnone : decodeCtrl cfg b0 b1 = none := h
    obtain ⟨-, -, hack⟩ | ⟨r, -, -, -, hnak⟩ | ⟨hack, hnak, -⟩ := decodeCtrl_cases cfg b0 b1
    · cases hack.symm.trans hnone
    · cases hnak.symm.trans hnone
    · exact ⟨hack, fun ⟨h0, h1⟩ => hnak ⟨h0, h1⟩⟩

/-! ### Which step the front selects (R101) -/

section Select

variable {cfg : Config} {buf : List Byte}

theorem asmSelect_of_ack (h : frontCtrl cfg buf = some .ack) : asmSelect cfg buf = .ctrlAck := by
  simp only [asmSelect, h]

theorem asmSelect_of_nak {r : NakReason} (h : frontCtrl cfg buf = some (.nak r)) : asmSelect cfg buf = .ctrlNak r := by
  simp only [asmSelect, h]

theorem asmSelect_of_short (hn : noControl cfg buf) (h6 : buf.length < 6) : asmSelect cfg buf = .waitShort := by
  simp only [asmSelect, frontCtrl_eq_none_of_noControl hn]
  rw [if_pos h6]

theorem asmSelect_of_long (hn : noControl cfg buf) (h6 : 6 ≤ buf.length)
    (hlong : cfg.lmax < declaredLength buf ∨ cfg.cap < declaredLength buf + 6) : asmSelect cfg buf = .resyncLen := by
  simp only [asmSelect, frontCtrl_eq_none_of_noControl hn]
  rw [if_neg (by omega), if_pos hlong]

theorem asmSelect_of_incomplete (hc : configOk cfg = true) (hn : noControl cfg buf) (h6 : 6 ≤ buf.length)
    (hmax : declaredLength buf ≤ cfg.lmax) (hlen : buf.length < declaredLength buf + 6) :
    asmSelect cfg buf = .waitBody := by
  have hroom := ((configOk_iff cfg).mp hc).room
  simp only [asmSelect, frontCtrl_eq_none_of_noControl hn]
  rw [if_neg (by omega), if_neg (by omega), if_pos hlen]

end Select

/-- The fixed points of the loop are those of R113 (a) and (b). -/
theorem loopFixed_iff {cfg : Config} (hc : configOk cfg = true) (buf : List Byte) :
    loopFixed cfg buf = true ↔ atFixedPoint cfg buf := by
  constructor
  · intro h
    unfold loopFixed at h
    obtain ⟨-, ha⟩ | ⟨r, -, ha⟩ | ⟨hf, h6, -⟩ | ⟨-, -, -, ha⟩ | ⟨hf, h6, hmax, -, hlen, -⟩ | ⟨-, -, -, -, -, ha⟩ |
      ⟨-, -, -, -, -, ha⟩ := asmSelect_cases cfg buf
    · rw [ha] at h; cases h
    · rw [ha] at h; cases h
    · exact ⟨(frontCtrl_eq_none_iff cfg buf).mp hf, .inl h6⟩
    · rw [ha] at h; cases h
    · refine ⟨(frontCtrl_eq_none_iff cfg buf).mp hf, .inr ?_⟩
      match buf, h6 with
      | t1 :: t2 :: hi :: lo :: rest, h6 =>
        rw [declaredLength_cons] at hmax hlen
        exact ⟨t1, t2, hi, lo, rest, rfl, h6, hmax, hlen⟩
    · rw [ha] at h; cases h
    · rw [ha] at h; cases h
  · rintro ⟨hn, h6 | ⟨t1, t2, hi, lo, rest, rfl, h6, hmax, hlen⟩⟩
    · rw [loopFixed, asmSelect_of_short hn h6]; rfl
    · rw [← declaredLength_cons t1 t2 hi lo rest] at hmax hlen
      rw [loopFixed, asmSelect_of_incomplete hc hn h6 hmax hlen]; rfl

/-! ### The steps as instructions -/

/-- The instruction of the step that the front selects stops the loop or fires. -/
theorem exec_of_asmSelect {s : State} {a : AsmStep} (hc : configOk s.cfg = true) (ha : asmSelect s.cfg s.buf = a) :
    exec (asmInstr a) s = .next (if a.stops then s.stopLoop else s.fire a) := by
  subst ha
  exact exec_selected s hc

/-- Inside the loop, `stop` moves the worker on (R14, R103). -/
theorem State.stopLoop_of_loop {s : State} {rest : List Byte} (hp : s.phase = .loop rest) :
    s.stopLoop = { s with phase := afterStop rest } := by
  cases rest <;> simp only [State.stopLoop, hp, afterStop] <;> rfl

/-- ASM.OVERFLOW of at most `C` bytes runs under every configuration that meets R11 (R102). -/
theorem exec_asmOverflow {s : State} {chunk : List Byte} (hc : configOk s.cfg = true) (h : chunk.length ≤ s.cfg.cap) :
    exec (.asmOverflow chunk) s = .next (s.makeRoom chunk.length) := by
  calc exec (.asmOverflow chunk) s
      = s.configured (if chunk.length ≤ s.cfg.cap then .next (s.makeRoom chunk.length) else .fault .discardBeyondFill) := rfl
    _ = .next (s.makeRoom chunk.length) := by rw [State.configured_of_ok hc, if_pos h]

/-- Given more than `C` bytes, ASM.OVERFLOW would discard beyond `fill` (log 14). -/
theorem exec_asmOverflow_beyond {s : State} {chunk : List Byte} (hc : configOk s.cfg = true)
    (h : s.cfg.cap < chunk.length) : exec (.asmOverflow chunk) s = .fault .discardBeyondFill := by
  calc exec (.asmOverflow chunk) s
      = s.configured (if chunk.length ≤ s.cfg.cap then .next (s.makeRoom chunk.length) else .fault .discardBeyondFill) := rfl
    _ = .fault .discardBeyondFill := by rw [State.configured_of_ok hc, if_neg (by omega)]

/-- Given bytes that do not fit, ASM.APPEND would write beyond the capacity (log 14). -/
theorem exec_asmAppend_beyond {s : State} {chunk : List Byte} (hc : configOk s.cfg = true)
    (h : s.cfg.cap < s.buf.length + chunk.length) : exec (.asmAppend chunk) s = .fault .appendBeyondCapacity := by
  calc exec (.asmAppend chunk) s
      = s.configured (if s.buf.length + chunk.length ≤ s.cfg.cap then .next (s.append chunk)
          else .fault .appendBeyondCapacity) := rfl
    _ = .fault .appendBeyondCapacity := by rw [State.configured_of_ok hc, if_neg (by omega)]

/-- INGEST outside a running `ingest` is the whole operation (R101). -/
theorem exec_ingest {s : State} (hc : configOk s.cfg = true) (hi : s.inIngest = false) (chunk : List Byte) :
    exec (.ingest chunk) s = .next (s.ingestChunk chunk) := by
  calc exec (.ingest chunk) s
      = s.configured (if s.inIngest then .refused .concurrentOperation else .next (s.ingestChunk chunk)) := rfl
    _ = .next (s.ingestChunk chunk) := by rw [State.configured_of_ok hc, hi, if_neg Bool.false_ne_true]

/-- BUFFER_RESET outside a running `ingest` empties the buffer under any configuration (R117). -/
theorem exec_bufferReset {s : State} (hi : s.inIngest = false) : exec .bufferReset s = .next s.clearBuffer := by
  calc exec .bufferReset s
      = (if s.inIngest then .refused .concurrentOperation else .next s.clearBuffer) := rfl
    _ = .next s.clearBuffer := by rw [hi, if_neg Bool.false_ne_true]

/-! ### The obligations -/

/-- Settles O17: the two bytes are DEC.CTRL's, and accepting a control frame drops two bytes. -/
theorem controlStepsEmitAndDropTwo : Obligations.ControlStepsEmitAndDropTwo := by
  intro s rest hc
  refine ⟨fun hbuf => ?_, fun r hbuf => ?_⟩
  · have hfront : frontCtrl s.cfg s.buf = some .ack := by rw [hbuf]; exact decodeCtrl_ack s.cfg
    calc exec .asmCtrlAck s
        = .next (s.accept (.ctrl .ack) 2) := exec_of_asmSelect hc (asmSelect_of_ack hfront)
      _ = .next { s with buf := s.buf.drop 2, events := s.events ++ [.frame (.ctrl .ack)], pos := s.pos + 2 } := rfl
      _ = _ := by rw [hbuf]; rfl
  · have hfront : frontCtrl s.cfg s.buf = some (.nak r) := by rw [hbuf]; exact decodeCtrl_nak hc r
    calc exec .asmCtrlNak s
        = .next (s.accept (.ctrl (.nak r)) 2) := exec_of_asmSelect hc (asmSelect_of_nak hfront)
      _ = .next { s with buf := s.buf.drop 2, events := s.events ++ [.frame (.ctrl (.nak r))], pos := s.pos + 2 } := rfl
      _ = _ := by rw [hbuf]; rfl

/-- Settles O18: both steps stop the loop, and the loop's position says where the worker goes. -/
theorem waitStepsStopTheLoop : Obligations.WaitStepsStopTheLoop := by
  intro s rest hc hp hn
  refine ⟨fun h6 => ?_, fun t1 t2 h l tl hbuf h6 hmax hlen => ?_⟩
  · rw [← State.stopLoop_of_loop hp]
    exact exec_of_asmSelect hc (asmSelect_of_short hn h6)
  · have hL : declaredLength s.buf = 256 * h.toNat + l.toNat := by rw [hbuf, declaredLength_cons]
    rw [← hL] at hmax hlen
    rw [← State.stopLoop_of_loop hp]
    exact exec_of_asmSelect hc (asmSelect_of_incomplete hc hn h6 hmax hlen)

/-- Settles O19: the length test of R108 selects the step, and its recovery drops one byte. -/
theorem resyncLenDropsOneByte : Obligations.ResyncLenDropsOneByte := by
  intro s t1 t2 h l tl hc hbuf h6 hn hlong
  rw [← declaredLength_cons t1 t2 h l tl, ← hbuf] at hlong
  calc exec .asmResyncLen s
      = .next (s.recover (.resync .length) 1) := exec_of_asmSelect hc (asmSelect_of_long hn h6 hlong)
    _ = .next { s with buf := s.buf.drop 1, events := s.events ++ [.resync .length], pos := s.pos + 1 } := rfl
    _ = _ := by rw [hbuf]; rfl

/-- Settles O20: the complete candidate's wrong checksum selects the step, and its recovery drops one byte. -/
theorem resyncCkDropsOneByte : Obligations.ResyncCkDropsOneByte := by
  intro s t1 t2 h l kh kl body rest hc hbuf hl hmax hn hk
  have hsel : asmSelect s.cfg s.buf = .resyncCk := by
    rw [hbuf] at hn ⊢
    rw [asmSelect_candidate hc hl hmax hn, if_neg hk]
  calc exec .asmResyncCk s
      = .next (s.recover (.resync .checksum) 1) := exec_of_asmSelect hc hsel
    _ = .next { s with buf := s.buf.drop 1, events := s.events ++ [.resync .checksum], pos := s.pos + 1 } := rfl
    _ = _ := by rw [hbuf]; rfl

/-- Settles O22: each step's meaning tests the selection first. -/
theorem unselectedLoopStepsDoNothing : Obligations.UnselectedLoopStepsDoNothing := by
  intro s a hc hne
  have hsel : asmSelect s.cfg s.buf ≠ a := fun h => hne (by rw [h])
  cases a with
  | ctrlNak r =>
    refine (State.configured_of_ok hc _).trans ?_
    cases ha : asmSelect s.cfg s.buf with
    | ctrlNak r' => exact absurd (by rw [ha]; rfl) hne
    | ctrlAck | waitShort | resyncLen | waitBody | resyncCk | emitFull => rfl
  | ctrlAck | waitShort | resyncLen | waitBody | resyncCk | emitFull =>
    exact (State.configured_of_ok hc _).trans (by rw [if_neg hsel])

/-- Settles O23: the overflow check does nothing, or recovers by discarding the excess. -/
theorem overflowDiscardsTheExcess : Obligations.OverflowDiscardsTheExcess := by
  intro s chunk hc hcap
  rw [exec_asmOverflow hc hcap]
  obtain ⟨hfit, hroom⟩ | ⟨hover, hroom⟩ := s.makeRoom_cases chunk.length
  · exact ⟨fun _ => by rw [hroom], fun d hd h1 => by omega⟩
  · refine ⟨fun hfit => by omega, fun d hd h1 => ⟨by omega, ?_⟩⟩
    rw [hroom, show s.buf.length + chunk.length - s.cfg.cap = d by omega]
    rfl

/-- Settles O30: outside `ingest` the reset is `buf <- []`. -/
theorem bufferResetEmptiesTheBuffer : Obligations.BufferResetEmptiesTheBuffer := fun _ hi => exec_bufferReset hi

/-- Settles O31: each operation tests its own contract before it writes. -/
theorem usesOutsideTheContractStop : Obligations.UsesOutsideTheContractStop := by
  intro s hc
  refine ⟨fun t1 t2 body h => if_neg (by unfold maxBody; omega), fun chunk h => exec_asmOverflow_beyond hc h,
    fun chunk h => exec_asmAppend_beyond hc h, fun hi => ⟨if_pos hi, fun chunk => ?_⟩, fun hb => ?_⟩
  · exact (State.configured_of_ok hc _).trans (if_pos hi)
  · exact (State.configured_of_ok hc _).trans (if_pos hb)

end Sys2Proof.Machine

/-! PROOFS. The whole operation `ingest` (spec/42_assembler.md R101 to R104, R112 to R116): the loop run to its fixed point, the
pieces of a chunk, and what a split of the bytes cannot change. -/

namespace Sys2Proof.Machine

open Sys2Proof.Statements

/-! ### The loop run to its fixed point (R101, R112) -/

/-- The Assembler loop with iterations enough for the bytes present. -/
def State.settle (s : State) : State := asmLoop (s.buf.length + 1) s

theorem asmLoop_eq_settle {n : Nat} {s : State} (h : s.buf.length < n) : asmLoop n s = s.settle :=
  asmLoop_enough n _ s h (Nat.lt_succ_self _)

theorem State.ingestPiece_eq_settle (s : State) (piece : List Byte) :
    s.ingestPiece piece = ((s.makeRoom piece.length).append piece).settle := rfl

/-- A state at a fixed point is settled already (R113). -/
theorem State.settle_of_fixed {s : State} (h : loopFixed s.cfg s.buf = true) : s.settle = s := by
  have hstops : (asmSelect s.cfg s.buf).stops = true := h
  rw [State.settle, asmLoop, if_pos hstops]

/-- Anywhere else the selected step fires first. -/
theorem State.settle_of_fires {s : State} (h : (asmSelect s.cfg s.buf).stops = false) :
    s.settle = (s.fire (asmSelect s.cfg s.buf)).settle := by
  obtain ⟨e, k, hk1, hk2, hfire⟩ := s.fire_progress h
  have hlt : (s.fire (asmSelect s.cfg s.buf)).buf.length < s.buf.length := by
    rw [hfire, State.recover_buf, List.length_drop]; omega
  rw [State.settle, asmLoop, if_neg (by rw [h]; exact Bool.false_ne_true), asmLoop_eq_settle hlt]

theorem State.settle_frame (s : State) : AssemblerFrame s s.settle := asmLoop_frame _ s

/-- Bytes that arrive later leave the settled part settled: what the loop did without them it does with them (R114). -/
theorem asmLoop_append_settle (n : Nat) (s : State) (x : List Byte) :
    ((asmLoop n s).append x).settle = (s.append x).settle := by
  induction n generalizing s with
  | zero => rfl
  | succ n ih =>
    by_cases h : (asmSelect s.cfg s.buf).stops = true
    · rw [asmLoop, if_pos h]
    · have hfires : (asmSelect s.cfg s.buf).stops = false := by simpa using h
      have hsel : asmSelect (s.append x).cfg (s.append x).buf = asmSelect s.cfg s.buf :=
        asmSelect_append s.cfg s.buf x hfires
      rw [asmLoop, if_neg h, ih, ← s.fire_append x hfires, ← hsel]
      exact (State.settle_of_fires (by rw [hsel]; exact hfires)).symm

theorem State.settle_append_settle (s : State) (x : List Byte) : (s.settle.append x).settle = (s.append x).settle :=
  asmLoop_append_settle _ s x

/-- Appending twice is appending the whole. -/
theorem State.append_append (s : State) (x y : List Byte) : (s.append x).append y = s.append (x ++ y) := by
  simp only [State.append, List.append_assoc]

@[simp] theorem State.append_nil (s : State) : s.append [] = s := by
  simp only [State.append, List.append_nil]

/-! ### The pieces of a chunk (R103) -/

/-- A chunk that fits one piece is one piece. -/
theorem ingestPieces_of_le (n : Nat) {chunk : List Byte} {s : State} (h : chunk.length ≤ s.cfg.cap) :
    ingestPieces n chunk s = s.ingestPiece chunk := by
  cases n with
  | zero => rfl
  | succ n => rw [ingestPieces, if_pos h]

/-- A longer chunk is its first `C` bytes and the rest. -/
theorem ingestPieces_of_gt (n : Nat) {chunk : List Byte} {s : State} (h : s.cfg.cap < chunk.length) :
    ingestPieces (n + 1) chunk s = ingestPieces n (chunk.drop s.cfg.cap) (s.ingestPiece (chunk.take s.cfg.cap)) := by
  rw [ingestPieces, if_neg (by omega)]

theorem State.ingestChunk_of_le {s : State} {chunk : List Byte} (h : chunk.length ≤ s.cfg.cap) :
    s.ingestChunk chunk = s.ingestPiece chunk := ingestPieces_of_le _ h

theorem ingestPieces_fixed (n : Nat) (chunk : List Byte) (s : State) :
    loopFixed s.cfg (ingestPieces n chunk s).buf = true := by
  induction n generalizing chunk s with
  | zero => exact s.ingestPiece_fixed chunk
  | succ n ih =>
    by_cases h : chunk.length ≤ s.cfg.cap
    · rw [ingestPieces_of_le _ h]
      exact s.ingestPiece_fixed chunk
    · rw [ingestPieces_of_gt n (by omega)]
      have hrest := ih (chunk.drop s.cfg.cap) (s.ingestPiece (chunk.take s.cfg.cap))
      rwa [State.ingestPiece_cfg] at hrest

/-- `ingest` ends at a fixed point of the loop (R113). -/
theorem State.ingestChunk_fixed (s : State) (chunk : List Byte) : loopFixed s.cfg (s.ingestChunk chunk).buf = true :=
  ingestPieces_fixed _ _ s

/-- The first bytes of a chunk, and behind them the others. -/
theorem take_append_drop_append (n : Nat) (buf chunk : List Byte) :
    buf ++ chunk = buf ++ chunk.take n ++ chunk.drop n := by
  rw [List.append_assoc, List.take_append_drop]

theorem ingestPieces_drops (n : Nat) (chunk : List Byte) (s : State) (hcap : 1 ≤ s.cfg.cap) (hn : chunk.length ≤ n) :
    ∃ k, k ≤ (s.buf ++ chunk).length ∧ (ingestPieces n chunk s).buf = (s.buf ++ chunk).drop k ∧
      (ingestPieces n chunk s).pos = s.pos + k := by
  induction n generalizing chunk s with
  | zero => exact s.ingestPiece_drops chunk (by omega)
  | succ n ih =>
    by_cases h : chunk.length ≤ s.cfg.cap
    · rw [ingestPieces_of_le _ h]
      exact s.ingestPiece_drops chunk h
    · rw [ingestPieces_of_gt n (by omega)]
      obtain ⟨k, hk, hbuf, hpos⟩ := s.ingestPiece_drops (chunk.take s.cfg.cap) (List.length_take_le _ _)
      obtain ⟨m, hm, hbuf', hpos'⟩ := ih (chunk.drop s.cfg.cap) (s.ingestPiece (chunk.take s.cfg.cap))
        (by rwa [State.ingestPiece_cfg]) (by rw [List.length_drop]; omega)
      rw [hbuf, ← List.drop_append_of_le_length hk, ← take_append_drop_append] at hm hbuf'
      refine ⟨k + m, ?_, ?_, by rw [hpos', hpos]; omega⟩
      · rw [List.length_drop] at hm
        simp only [List.length_append, List.length_take] at hk hm ⊢
        omega
      · rw [hbuf', List.drop_drop]

/-- Over a whole `ingest`, bytes enter at the back and leave at the front, and the cursor counts them (R23, R24). -/
theorem State.ingestChunk_drops {s : State} (hc : configOk s.cfg = true) (chunk : List Byte) :
    ∃ k, k ≤ (s.buf ++ chunk).length ∧ (s.ingestChunk chunk).buf = (s.buf ++ chunk).drop k ∧
      (s.ingestChunk chunk).pos = s.pos + k := by
  have hroom := ((configOk_iff s.cfg).mp hc).room
  exact ingestPieces_drops _ chunk s (by omega) (Nat.le_refl _)

/-- What the Assembler works on is all that changes. -/
theorem AssemblerFrame.eq {s t : State} (h : AssemblerFrame s t) :
    t = { s with buf := t.buf, events := t.events, pos := t.pos } := by
  obtain ⟨hcfg, hreplies, hresult, hphase, hinbound, houtbound, hwake, hready, htx, hwire, hinputs, hgrain, hdraws, -⟩ := h
  rw [← hcfg, ← hreplies, ← hresult, ← hphase, ← hinbound, ← houtbound, ← hwake, ← hready, ← htx, ← hwire, ← hinputs,
    ← hgrain, ← hdraws]

/-! ### Losses (R102, R114) -/

/-- The events that led from `s` to `t` report a loss. -/
def LossReported (s t : State) : Prop := ∃ more d, t.events = s.events ++ more ∧ Event.loss d ∈ more

theorem LossReported.not_noLoss {s t : State} (h : LossReported s t) : ¬ noLoss (newEvents s t) := by
  obtain ⟨more, d, hevents, hd⟩ := h
  intro hno
  apply hno d
  rwa [newEvents, hevents, List.drop_left]

theorem LossReported.later {s t u : State} (h : LossReported s t) (k : AssemblerFrame t u) : LossReported s u := by
  obtain ⟨more, d, hevents, hd⟩ := h
  obtain ⟨more', hevents'⟩ := k.grew
  exact ⟨more ++ more', d, by rw [hevents', hevents, List.append_assoc], List.mem_append_left _ hd⟩

theorem LossReported.earlier {s t u : State} (h : AssemblerFrame s t) (k : LossReported t u) : LossReported s u := by
  obtain ⟨more, hevents⟩ := h.grew
  obtain ⟨more', d, hevents', hd⟩ := k
  exact ⟨more ++ more', d, by rw [hevents', hevents, List.append_assoc], List.mem_append_right _ hd⟩

/-- Where no loss is reported, a piece is its bytes appended and the loop. -/
theorem State.ingestPiece_settles (s : State) (piece : List Byte) :
    s.ingestPiece piece = (s.append piece).settle ∨ LossReported s (s.ingestPiece piece) := by
  rw [State.ingestPiece_eq_settle]
  obtain ⟨-, hroom⟩ | ⟨-, hroom⟩ := s.makeRoom_cases piece.length
  · exact .inl (by rw [hroom])
  · have hloss : LossReported s ((s.makeRoom piece.length).append piece) := by
      rw [hroom]
      exact ⟨_, _, rfl, List.mem_singleton.mpr rfl⟩
    exact .inr (hloss.later (State.settle_frame _))

/-- The same for the pieces of a chunk. -/
theorem ingestPieces_settles (n : Nat) (chunk : List Byte) (s : State) :
    ingestPieces n chunk s = (s.append chunk).settle ∨ LossReported s (ingestPieces n chunk s) := by
  induction n generalizing chunk s with
  | zero => exact s.ingestPiece_settles chunk
  | succ n ih =>
    by_cases h : chunk.length ≤ s.cfg.cap
    · rw [ingestPieces_of_le _ h]
      exact s.ingestPiece_settles chunk
    · rw [ingestPieces_of_gt n (by omega)]
      obtain hrest | hrest := ih (chunk.drop s.cfg.cap) (s.ingestPiece (chunk.take s.cfg.cap))
      · obtain hpiece | hpiece := s.ingestPiece_settles (chunk.take s.cfg.cap)
        · left
          rw [hrest, hpiece, State.settle_append_settle, State.append_append, List.take_append_drop]
        · exact .inr (hpiece.later (ingestPieces_frame _ _ _))
      · exact .inr (hrest.earlier (s.ingestPiece_frame _))

theorem State.ingestChunk_settles (s : State) (chunk : List Byte) :
    s.ingestChunk chunk = (s.append chunk).settle ∨ LossReported s (s.ingestChunk chunk) :=
  ingestPieces_settles _ chunk s

/-- INGEST that answers a next state is the whole operation. -/
theorem eq_ingestChunk_of_exec {s t : State} {chunk : List Byte} (h : exec (.ingest chunk) s = .next t) :
    t = s.ingestChunk chunk := by
  obtain ⟨-, h⟩ := State.configured_next (s := s) h
  split at h
  · cases h
  · cases h; rfl

/-- Several INGESTs from a fixed point: where no loss is reported, all their bytes appended and the loop. -/
theorem ingestAll_settles (chunks : List (List Byte)) {s u : State} (hfixed : loopFixed s.cfg s.buf = true)
    (h : ingestAll chunks s = some u) :
    AssemblerFrame s u ∧ (u = (s.append chunks.flatten).settle ∨ LossReported s u) := by
  induction chunks generalizing s with
  | nil =>
    obtain rfl : s = u := Option.some.inj h
    refine ⟨.refl s, .inl ?_⟩
    rw [List.flatten_nil, State.append_nil, State.settle_of_fixed hfixed]
  | cons chunk chunks ih =>
    unfold ingestAll at h
    split at h
    case h_1 t hexec =>
      obtain rfl := eq_ingestChunk_of_exec hexec
      have hframe := s.ingestChunk_frame chunk
      have hfixed' : loopFixed (s.ingestChunk chunk).cfg (s.ingestChunk chunk).buf = true := by
        rw [hframe.cfg]; exact s.ingestChunk_fixed chunk
      obtain ⟨hframe', hrest⟩ := ih hfixed' h
      refine ⟨hframe.trans hframe', ?_⟩
      obtain hrest | hrest := hrest
      · obtain hchunk | hchunk := s.ingestChunk_settles chunk
        · left
          rw [hrest, hchunk, State.settle_append_settle, State.append_append, List.flatten_cons]
        · exact .inr (hchunk.later hframe')
      · exact .inr (hrest.earlier hframe)
    case h_2 => cases h

/-! ### Garbage in front of a frame (R116) -/

/-- ENC.FULL's bytes are a complete candidate that carries its own checksum (R62, R93). -/
theorem fullBytes_eq_candidate (t1 t2 : Byte) {body : List Byte} (h : body.length ≤ 65535) :
    ∃ hi lo kh kl : Byte, body.length = 256 * hi.toNat + lo.toNat ∧
      (checksum (t1 :: t2 :: hi :: lo :: body)).toNat = 256 * kh.toNat + kl.toNat ∧
      fullBytes t1 t2 body = t1 :: t2 :: hi :: lo :: (body ++ [kh, kl]) := by
  rw [← encodeFull_eq_fullBytes t1 t2 h]
  exact decodeFull_eq_full_iff.mp (decodeFull_encodeFull t1 t2 h)

/-- A frame alone in the buffer is emitted and the loop stops at the empty buffer. -/
theorem State.settle_frameBytes {s : State} {t1 t2 : Byte} {body : List Byte} (hc : configOk s.cfg = true)
    (hmax : body.length ≤ s.cfg.lmax) (hn : noControl s.cfg [t1, t2]) (hbuf : s.buf = fullBytes t1 t2 body) :
    s.settle =
      { s with buf := [], events := s.events ++ [.frame (.full t1 t2 body)], pos := s.pos + (body.length + 6) } := by
  have hlmax := ((configOk_iff s.cfg).mp hc).lmax
  obtain ⟨hi, lo, kh, kl, hl, hk, hbytes⟩ := fullBytes_eq_candidate t1 t2 (body := body) (by omega)
  rw [hbytes] at hbuf
  have hsel : asmSelect s.cfg s.buf = .emitFull := by
    rw [hbuf, asmSelect_candidate hc hl hmax hn, if_pos hk]
  have hfires : (asmSelect s.cfg s.buf).stops = false := by rw [hsel]; rfl
  rw [State.settle_of_fires hfires, hsel, show s.fire .emitFull = s.fireEmitFull from rfl,
    State.fireEmitFull_candidate hbuf hl]
  exact State.settle_of_fixed (s := { s with
    buf := [], events := s.events ++ [.frame (.full t1 t2 body)], pos := s.pos + (body.length + 6) }) rfl

/-- A resynchronization drops the front byte and reports its cause (R108, R110). -/
theorem State.fire_resync {s : State} {a : AsmStep} (h : a = .resyncLen ∨ a = .resyncCk) :
    ∃ cause, s.fire a = s.recover (.resync cause) 1 := by
  obtain rfl | rfl := h
  · exact ⟨.length, rfl⟩
  · exact ⟨.checksum, rfl⟩

/-- Rejected bytes in front of a frame cost one resynchronization each, then the frame comes out. -/
theorem State.settle_garbage {s : State} {t1 t2 : Byte} {body : List Byte} (garbage : List Byte)
    (hc : configOk s.cfg = true) (hmax : body.length ≤ s.cfg.lmax) (hn : noControl s.cfg [t1, t2])
    (hbuf : s.buf = garbage ++ fullBytes t1 t2 body)
    (hreject : ∀ k, k < garbage.length → asmSelect s.cfg ((garbage ++ fullBytes t1 t2 body).drop k) = .resyncLen ∨
      asmSelect s.cfg ((garbage ++ fullBytes t1 t2 body).drop k) = .resyncCk) :
    ∃ causes : List ResyncCause, causes.length = garbage.length ∧
      s.settle =
        { s with buf := [], events := s.events ++ (causes.map Event.resync ++ [.frame (.full t1 t2 body)]),
                 pos := s.pos + (garbage.length + body.length + 6) } := by
  induction garbage generalizing s with
  | nil =>
    refine ⟨[], rfl, ?_⟩
    rw [State.settle_frameBytes hc hmax hn hbuf]
    simp only [List.map_nil, List.nil_append, List.length_nil, Nat.zero_add]
  | cons b garbage ih =>
    have hsel : asmSelect s.cfg s.buf = .resyncLen ∨ asmSelect s.cfg s.buf = .resyncCk := by
      rw [hbuf]
      exact hreject 0 (Nat.succ_pos _)
    have hfires : (asmSelect s.cfg s.buf).stops = false := by obtain h | h := hsel <;> rw [h] <;> rfl
    obtain ⟨cause, hfire⟩ := State.fire_resync (s := s) hsel
    have hrest : (s.recover (.resync cause) 1).buf = garbage ++ fullBytes t1 t2 body := by
      rw [State.recover_buf, hbuf]; rfl
    obtain ⟨causes, hlen, hsettle⟩ := ih (s := s.recover (.resync cause) 1) hc hmax hn hrest
      (fun k hk => hreject (k + 1) (Nat.succ_lt_succ hk))
    refine ⟨cause :: causes, congrArg Nat.succ hlen, ?_⟩
    rw [State.settle_of_fires hfires, hfire, hsettle]
    simp only [State.recover, State.emit, State.dropFront, List.append_assoc, List.map_cons, List.cons_append,
      List.nil_append, List.length_cons, State.mk.injEq, true_and, and_true]
    omega

/-! ### The obligations -/

/-- Settles O25: the pieces end at a fixed point, drop from the front only, and touch nothing else. -/
theorem ingestReachesAFixedPoint : Obligations.IngestReachesAFixedPoint := by
  intro s chunk hc hi
  have hframe := s.ingestChunk_frame chunk
  have hfixed := s.ingestChunk_fixed chunk
  have hroom := ((configOk_iff s.cfg).mp hc).room
  have hlen := fixed_length_le hfixed
  obtain ⟨more, hmore⟩ := hframe.grew
  obtain ⟨n, hn, hbuf, hpos⟩ := State.ingestChunk_drops hc chunk
  refine ⟨(s.ingestChunk chunk).buf, more, n, ?_, (loopFixed_iff hc _).mp hfixed, hlen, by omega, hn, hbuf⟩
  rw [exec_ingest hc hi, ← hmore, ← hpos, ← hframe.eq]

/-- Settles O27: with no loss, either run appends all the bytes and runs the loop once. -/
theorem chunkingIsInvisible : Obligations.ChunkingIsInvisible := by
  intro s t u chunks hc hi hfixed ht hu hnoT hnoU
  obtain rfl := eq_ingestChunk_of_exec ht
  obtain hone | hone := s.ingestChunk_settles chunks.flatten
  · obtain ⟨-, hall | hall⟩ := ingestAll_settles chunks ((loopFixed_iff hc _).mpr hfixed) hu
    · rw [hone, hall]
    · exact absurd hnoU hall.not_noLoss
  · exact absurd hnoT hone.not_noLoss

/-- Settles O28: nothing overflows, nothing is appended, and the loop stops at once. -/
theorem emptyChunkDoesNothing : Obligations.EmptyChunkDoesNothing := by
  intro s hc hi hfixed
  have hstops := (loopFixed_iff hc _).mpr hfixed
  have hlen := fixed_length_le hstops
  have hcap := ((configOk_iff s.cfg).mp hc).room
  have hroom : s.makeRoom 0 = s := by
    obtain ⟨-, h⟩ | ⟨h, -⟩ := s.makeRoom_cases 0
    · exact h
    · omega
  rw [exec_ingest hc hi, State.ingestChunk_of_le (by simp), State.ingestPiece_eq_settle, List.length_nil, hroom,
    State.append_nil, State.settle_of_fixed hstops]

/-- Settles O29: the chunk fits an empty buffer, and the loop over it is the garbage's resynchronizations, then the frame. -/
theorem garbageIsSkippedByteByByte : Obligations.GarbageIsSkippedByteByByte := by
  intro s garbage body t1 t2 hc hi hempty hmax hn hcap hreject
  have hroom : s.makeRoom (garbage ++ fullBytes t1 t2 body).length = s := by
    obtain ⟨-, h⟩ | ⟨h, -⟩ := s.makeRoom_cases (garbage ++ fullBytes t1 t2 body).length
    · exact h
    · rw [hempty, List.length_nil] at h; omega
  obtain ⟨causes, hlen, hsettle⟩ := State.settle_garbage (s := s.append (garbage ++ fullBytes t1 t2 body)) garbage hc hmax hn
    (by rw [State.append_buf, hempty, List.nil_append]) hreject
  refine ⟨causes, hlen, ?_⟩
  rw [exec_ingest hc hi, State.ingestChunk_of_le hcap, State.ingestPiece_eq_settle, hroom, hsettle]
  simp only [State.append, hempty]

end Sys2Proof.Machine

/-! PROOFS. What one step of the machine can do, said once (spec/00_scope.md R8, R9; log 7, 12, 16, 17): the worker's moves, the
port calls and the environment's moves. -/

namespace Sys2Proof.Machine

open Sys2Proof.Statements

/-! ### Performing an action -/

/-- What a step answers once it is known what it does. -/
def Action.perform : Action → Out
  | .run i t => exec i t
  | .move t => .next t
  | .refuse r => .refused r

/-- Under a configuration that meets R11 a step performs the next action. -/
theorem step_eq_perform {s : State} (hc : configOk s.cfg = true) : step s = s.nextAction.perform := by
  rw [step, if_pos hc]
  cases s.nextAction <;> rfl

/-- A step that goes on ran under a configuration that meets R11 (U13). -/
theorem step_next {s t : State} (h : step s = .next t) : configOk s.cfg = true ∧ s.nextAction.perform = .next t := by
  by_cases hc : configOk s.cfg = true
  · exact ⟨hc, (step_eq_perform hc).symm.trans h⟩
  · rw [step, if_neg hc] at h
    cases h

/-! ### The worker's turn -/

section WorkerTurn

variable {s : State}

theorem State.workerTurn_of_overflow {rest : List Byte} (hp : s.phase = .overflow rest) :
    s.workerTurn = .run (.asmOverflow (rest.take s.cfg.cap))
      { s with phase := .append (rest.take s.cfg.cap) (rest.drop s.cfg.cap) } := by
  rw [State.workerTurn, hp]

theorem State.workerTurn_of_append {piece rest : List Byte} (hp : s.phase = .append piece rest) :
    s.workerTurn = .run (.asmAppend piece) { s with phase := .loop rest } := by
  rw [State.workerTurn, hp]

theorem State.workerTurn_of_loop {rest : List Byte} (hp : s.phase = .loop rest) :
    s.workerTurn = .run (asmInstr (asmSelect s.cfg s.buf)) s := by
  rw [State.workerTurn, hp]

theorem State.workerTurn_of_not_inIngest (hi : s.inIngest = false) : s.workerTurn = s.outputTurn := by
  obtain hp | hp := State.phase_of_not_inIngest hi <;> rw [State.workerTurn, hp]

theorem State.outputTurn_of_reply {bytes : List Byte} {rest : List (List Byte)} (hr : s.replies = bytes :: rest) :
    s.outputTurn = .run (.txEnqueue bytes) { s with replies := rest } := by
  rw [State.outputTurn, hr]

theorem State.outputTurn_of_frame {fr : Frame} {rest : List Event} (hr : s.replies = [])
    (he : s.events = .frame fr :: rest) : s.outputTurn = .run (classify s.cfg fr) { s with events := rest } := by
  simp only [State.outputTurn, hr, he]

theorem State.outputTurn_of_loss {d : Nat} {rest : List Event} (hr : s.replies = [])
    (he : s.events = .loss d :: rest) : s.outputTurn = .move { s with events := rest } := by
  simp only [State.outputTurn, hr, he]

theorem State.outputTurn_of_resync {c : ResyncCause} {rest : List Event} (hr : s.replies = [])
    (he : s.events = .resync c :: rest) : s.outputTurn = .move { s with events := rest } := by
  simp only [State.outputTurn, hr, he]

theorem State.outputTurn_of_idle (hr : s.replies = []) (he : s.events = []) : s.outputTurn = .move s.idleTurn := by
  simp only [State.outputTurn, hr, he]

/-- Between operations the worker's turn is its loop's. -/
theorem State.workerTurn_of_not_busy (hb : s.busy = false) : s.workerTurn = .move s.idleTurn := by
  obtain ⟨hi, he, hr⟩ := State.not_busy hb
  rw [State.workerTurn_of_not_inIngest hi, State.outputTurn_of_idle hr he]

theorem State.busy_eq_false {s : State} (hi : s.inIngest = false) (he : s.events = []) (hr : s.replies = []) :
    s.busy = false := by
  simp only [State.busy, hi, he, hr, List.isEmpty_nil, Bool.not_true, Bool.or_self]

theorem State.idleTurn_of_woken (hp : s.phase = .waiting) (hw : s.wake = true) :
    s.idleTurn = { s with wake := false, phase := .top } := by
  simp only [State.idleTurn, hp, hw, if_true]

theorem State.idleTurn_of_asleep (hp : s.phase = .waiting) (hw : s.wake = false) : s.idleTurn = s := by
  simp only [State.idleTurn, hp, hw, Bool.false_eq_true, if_false]

theorem State.idleTurn_of_empty (hp : s.phase = .top) (hq : s.inbound = []) :
    s.idleTurn = { s with phase := .waiting } := by
  simp only [State.idleTurn, hp, hq, List.isEmpty_nil, if_true]

theorem State.idleTurn_of_queued (hp : s.phase = .top) (hq : s.inbound ≠ []) :
    s.idleTurn = { s.takeDrained with phase := .overflow s.drained } := by
  have hne : s.inbound.isEmpty = false := by simpa using hq
  simp only [State.idleTurn, hp, hne, Bool.false_eq_true, if_false]

end WorkerTurn

/-- TX.ENQUEUE runs under every configuration that meets R11 (R154). -/
theorem exec_txEnqueue {s : State} (hc : configOk s.cfg = true) (bytes : List Byte) :
    exec (.txEnqueue bytes) s = .next (s.enqueue bytes) := State.configured_of_ok hc _

/-- RX.NOTIFY runs under every configuration that meets R11 (R151). -/
theorem exec_rxNotify {s : State} (hc : configOk s.cfg = true) (chunk : List Byte) :
    exec (.rxNotify chunk) s = .next (s.arrive chunk) := State.configured_of_ok hc _

/-- The worker's moves: inside `ingest` a piece taken in, appended, or a loop step; outside it one output handed over, else
a wait, a wake-up or a drain (R101, R103, R153). -/
inductive WorkerMove (s : State) : State → Prop
  | overflow (rest : List Byte) (hp : s.phase = .overflow rest) :
      WorkerMove s (({ s with phase := .append (rest.take s.cfg.cap) (rest.drop s.cfg.cap) } : State).makeRoom
        (rest.take s.cfg.cap).length)
  | append (piece rest : List Byte) (hp : s.phase = .append piece rest) (hfit : s.buf.length + piece.length ≤ s.cfg.cap) :
      WorkerMove s (({ s with phase := .loop rest } : State).append piece)
  | stop (rest : List Byte) (hp : s.phase = .loop rest) (hfixed : loopFixed s.cfg s.buf = true) :
      WorkerMove s { s with phase := afterStop rest }
  | fire (rest : List Byte) (hp : s.phase = .loop rest) (hfires : (asmSelect s.cfg s.buf).stops = false) :
      WorkerMove s (s.fire (asmSelect s.cfg s.buf))
  | offer (hi : s.inIngest = false) (bytes : List Byte) (rest : List (List Byte)) (hr : s.replies = bytes :: rest) :
      WorkerMove s (({ s with replies := rest } : State).enqueue bytes)
  | dispatch (hi : s.inIngest = false) (hr : s.replies = []) (fr : Frame) (rest : List Event)
      (he : s.events = .frame fr :: rest) :
      WorkerMove s (({ s with events := rest } : State).reply (dispatchFrame s.cfg fr))
  | report (hi : s.inIngest = false) (hr : s.replies = []) (e : Event) (rest : List Event) (he : s.events = e :: rest) :
      WorkerMove s { s with events := rest }
  | wake (hb : s.busy = false) (hp : s.phase = .waiting) (hw : s.wake = true) :
      WorkerMove s { s with wake := false, phase := .top }
  | sleep (hb : s.busy = false) (hp : s.phase = .waiting) (hw : s.wake = false) : WorkerMove s s
  | wait (hb : s.busy = false) (hp : s.phase = .top) (hq : s.inbound = []) : WorkerMove s { s with phase := .waiting }
  | drain (hb : s.busy = false) (hp : s.phase = .top) (hq : s.inbound ≠ []) :
      WorkerMove s { s.takeDrained with phase := .overflow s.drained }

/-- An outcome that goes on in a state of which `P` holds. -/
def GoesOn (P : State → Prop) (o : Out) : Prop := ∃ t, o = .next t ∧ P t

theorem GoesOn.of_next {P : State → Prop} {o : Out} {t : State} (h : GoesOn P o) (ho : o = .next t) : P t := by
  obtain ⟨u, hu, hP⟩ := h
  cases hu.symm.trans ho
  exact hP

theorem GoesOn.mono {P Q : State → Prop} {o : Out} (h : GoesOn P o) (hPQ : ∀ t, P t → Q t) : GoesOn Q o := by
  obtain ⟨t, ho, hP⟩ := h
  exact ⟨t, ho, hPQ t hP⟩

section WorkerGoesOn

variable {s : State}

theorem perform_outputTurn (hc : configOk s.cfg = true) (hi : s.inIngest = false) :
    GoesOn (WorkerMove s) s.outputTurn.perform := by
  cases hr : s.replies with
  | cons bytes rest =>
    rw [State.outputTurn_of_reply hr]
    exact ⟨_, exec_txEnqueue (s := { s with replies := rest }) hc bytes, .offer hi bytes rest hr⟩
  | nil =>
    cases he : s.events with
    | cons e rest =>
      cases e with
      | frame fr =>
        rw [State.outputTurn_of_frame hr he]
        exact ⟨_, (exec_classify fr { s with events := rest }).trans (State.configured_of_ok hc _),
          .dispatch hi hr fr rest he⟩
      | loss d => rw [State.outputTurn_of_loss hr he]; exact ⟨_, rfl, .report hi hr _ rest he⟩
      | resync c => rw [State.outputTurn_of_resync hr he]; exact ⟨_, rfl, .report hi hr _ rest he⟩
    | nil =>
      have hb := State.busy_eq_false hi he hr
      rw [State.outputTurn_of_idle hr he]
      obtain hp | hp := State.phase_of_not_inIngest hi
      · by_cases hq : s.inbound = []
        · exact ⟨_, congrArg _ (State.idleTurn_of_empty hp hq), .wait hb hp hq⟩
        · exact ⟨_, congrArg _ (State.idleTurn_of_queued hp hq), .drain hb hp hq⟩
      · cases hw : s.wake with
        | true => exact ⟨_, congrArg _ (State.idleTurn_of_woken hp hw), .wake hb hp hw⟩
        | false => exact ⟨_, congrArg _ (State.idleTurn_of_asleep hp hw), .sleep hb hp hw⟩

theorem perform_loopTurn (hc : configOk s.cfg = true) {rest : List Byte} (hp : s.phase = .loop rest) :
    GoesOn (WorkerMove s) (exec (asmInstr (asmSelect s.cfg s.buf)) s) := by
  rw [exec_selected s hc]
  by_cases hstops : (asmSelect s.cfg s.buf).stops = true
  · rw [if_pos hstops, State.stopLoop_of_loop hp]
    exact ⟨_, rfl, .stop rest hp hstops⟩
  · rw [if_neg hstops]
    exact ⟨_, rfl, .fire rest hp (by simpa using hstops)⟩

/-- The worker's turn is one of its moves, unless it stands before an append that does not fit (log 14). -/
theorem perform_workerTurn (hc : configOk s.cfg = true) :
    GoesOn (WorkerMove s) s.workerTurn.perform ∨
      (s.pieceFits = false ∧ s.workerTurn.perform = .fault .appendBeyondCapacity) := by
  cases hp : s.phase with
  | top =>
    have hi : s.inIngest = false := by simp only [State.inIngest, hp]
    rw [State.workerTurn_of_not_inIngest hi]
    exact .inl (perform_outputTurn hc hi)
  | waiting =>
    have hi : s.inIngest = false := by simp only [State.inIngest, hp]
    rw [State.workerTurn_of_not_inIngest hi]
    exact .inl (perform_outputTurn hc hi)
  | overflow rest =>
    rw [State.workerTurn_of_overflow hp]
    exact .inl ⟨_, exec_asmOverflow (s := { s with phase := _ }) hc (List.length_take_le _ _), .overflow rest hp⟩
  | append piece rest =>
    rw [State.workerTurn_of_append hp]
    by_cases hfit : s.buf.length + piece.length ≤ s.cfg.cap
    · exact .inl ⟨_, exec_asmAppend (s := { s with phase := _ }) hc hfit, .append piece rest hp hfit⟩
    · refine .inr ⟨by simp only [State.pieceFits, hp, hfit, decide_false], ?_⟩
      exact exec_asmAppend_beyond (s := { s with phase := _ }) hc (by simp only; omega)
  | loop rest =>
    rw [State.workerTurn_of_loop hp]
    exact .inl (perform_loopTurn hc hp)

theorem WorkerMove.of_perform {t : State} (hc : configOk s.cfg = true) (h : s.workerTurn.perform = .next t) :
    WorkerMove s t := by
  obtain hgo | ⟨-, hfault⟩ := perform_workerTurn hc
  · exact hgo.of_next h
  · cases hfault.symm.trans h

end WorkerGoesOn

/-! ### The port calls -/

/-- What a port that is called between operations does (R190): INGEST, DISPATCH and TX.ENQUEUE have their effects, the others
answer a value. -/
inductive PortMove (s : State) : Instr → State → Prop
  | ingest (chunk : List Byte) : PortMove s (.ingest chunk) (s.ingestChunk chunk)
  | dispatch (fr : Frame) : PortMove s (.dispatch fr) (s.reply (dispatchFrame s.cfg fr))
  | enqueue (bytes : List Byte) : PortMove s (.txEnqueue bytes) (s.enqueue bytes)
  | answer (i : Instr) (v : Value) : PortMove s i (s.answer v)

/-- The body that the call of ENC.FULL gives can be encoded (R93). -/
def BodyEncodable (i : Instr) : Prop := ∀ t1 t2 body, i = .encFull t1 t2 body → body.length ≤ 65535

theorem perform_port {s : State} {i : Instr} (hc : configOk s.cfg = true) (hi : s.inIngest = false)
    (hk : callKind i = .betweenOperations) :
    GoesOn (PortMove s i) (exec i s) ∨ (¬ BodyEncodable i ∧ exec i s = .refused .bodyTooLong) := by
  cases i with
  | checksum bytes | decFull bytes => exact .inl ⟨_, rfl, .answer _ _⟩
  | ingest chunk => exact .inl ⟨_, exec_ingest hc hi chunk, .ingest chunk⟩
  | dispatch fr => exact .inl ⟨_, State.configured_of_ok hc _, .dispatch fr⟩
  | encLinkAck | encLinkNak r | decCtrl b0 b1 => exact .inl ⟨_, State.configured_of_ok hc _, .answer _ _⟩
  | encFull t1 t2 body =>
    by_cases hlen : body.length ≤ 65535
    · exact .inl ⟨_, exec_encFull t1 t2 hlen s, .answer _ _⟩
    · exact .inr ⟨fun h => hlen (h t1 t2 body rfl), if_neg hlen⟩
  | txEnqueue bytes => exact .inl ⟨_, exec_txEnqueue hc bytes, .enqueue bytes⟩
  | _ => cases hk

/-! ### Every step -/

/-- What a step does: the worker's move, listed or not; a port call that may land; or the environment's part. In each the input
it took is gone. -/
inductive Move (s : State) : State → Prop
  | worker (is : List Input) {t : State} (h : WorkerMove { s with inputs := is } t) : Move s t
  | notify (chunk : List Byte) (is : List Input) (hin : s.inputs = .call (.rxNotify chunk) :: is) :
      Move s (({ s with inputs := is } : State).arrive chunk)
  | reset (is : List Input) (hin : s.inputs = .call .bufferReset :: is) (hn : s.inIngest = false) :
      Move s ({ s with inputs := is } : State).clearBuffer
  | port (i : Instr) (is : List Input) {t : State} (hin : s.inputs = .call i :: is) (hb : s.busy = false)
      (h : PortMove { s with inputs := is } i t) : Move s t
  | sent (n : Nat) (is : List Input) (hin : s.inputs = .sent n :: is) :
      Move s (({ s with inputs := is } : State).feedWire n)
  | transport (b : Bool) (is : List Input) (hin : s.inputs = .transport b :: is) :
      Move s { s with inputs := is, ready := b }
  | grain (n : Nat) (is : List Input) (hin : s.inputs = .grain n :: is) : Move s { s with inputs := is, grain := n }

/-- Why a step from a configuration that meets R11 does not go on: an append that does not fit, a call of what is no port, or a
body too long to encode (log 14, 17, 18). -/
def Stops (s : State) : Prop :=
  s.pieceFits = false ∨ ∃ i is, s.inputs = .call i :: is ∧ (callKind i = .noPort ∨ ¬ BodyEncodable i)

section StepGoesOn

variable {s : State}

/-- The worker's turn inside a step, with whatever inputs are left. -/
theorem worker_cases (hc : configOk s.cfg = true) (is : List Input) :
    GoesOn (Move s) ({ s with inputs := is } : State).workerTurn.perform ∨
      (Stops s ∧ ∀ t, ({ s with inputs := is } : State).workerTurn.perform ≠ .next t) := by
  obtain hgo | ⟨hfit, hfault⟩ := perform_workerTurn (s := { s with inputs := is }) hc
  · exact .inl (hgo.mono fun _ => .worker is)
  · exact .inr ⟨.inl hfit, fun t h => by cases hfault.symm.trans h⟩

theorem perform_call (hc : configOk s.cfg = true) {i : Instr} {is : List Input} (hin : s.inputs = .call i :: is) :
    GoesOn (Move s) (s.callTurn i is).perform ∨ (Stops s ∧ ∀ t, (s.callTurn i is).perform ≠ .next t) := by
  unfold State.callTurn
  cases hk : callKind i with
  | atOnce =>
    cases i with
    | rxNotify chunk => exact .inl ⟨_, exec_rxNotify (s := { s with inputs := is }) hc chunk, .notify chunk is hin⟩
    | _ => cases hk
  | betweenIngests =>
    cases i with
    | bufferReset =>
      cases hn : s.inIngest with
      | true => exact worker_cases hc s.inputs
      | false => exact .inl ⟨_, exec_bufferReset (s := { s with inputs := is }) hn, .reset is hin hn⟩
    | _ => cases hk
  | betweenOperations =>
    cases hb : s.busy with
    | true => exact worker_cases hc s.inputs
    | false =>
      obtain hgo | ⟨hlong, href⟩ := perform_port (s := { s with inputs := is }) hc (State.not_busy hb).1 hk
      · exact .inl (hgo.mono fun _ => .port i is hin hb)
      · exact .inr ⟨.inr ⟨i, is, hin, .inr hlong⟩, fun t h => by cases href.symm.trans h⟩
  | noPort => exact .inr ⟨.inr ⟨i, is, hin, .inl hk⟩, fun t h => by cases h⟩

/-- A step goes on by one of the moves, or stops for one of the reasons. -/
theorem step_cases (hc : configOk s.cfg = true) :
    GoesOn (Move s) (step s) ∨ (Stops s ∧ ∀ t, step s ≠ .next t) := by
  rw [step_eq_perform hc]
  unfold State.nextAction
  cases hin : s.inputs with
  | nil => exact worker_cases hc s.inputs
  | cons input is =>
    cases input with
    | work => exact worker_cases hc is
    | call i => exact perform_call hc hin
    | sent n => exact .inl ⟨_, rfl, .sent n is hin⟩
    | transport b => exact .inl ⟨_, rfl, .transport b is hin⟩
    | grain n => exact .inl ⟨_, rfl, .grain n is hin⟩

end StepGoesOn

/-- Whatever a step leads to, one of the moves leads there. -/
theorem Move.of_step {s t : State} (h : step s = .next t) : configOk s.cfg = true ∧ Move s t := by
  have hc := (step_next h).1
  obtain hgo | ⟨-, hstop⟩ := step_cases hc
  · exact ⟨hc, hgo.of_next h⟩
  · exact absurd h (hstop t)

end Sys2Proof.Machine

/-! PROOFS. What every step keeps (spec/10_state.md R20, R23, R24, R28, R33, spec/42_assembler.md R113,
spec/44_transport_boundary.md R157, spec/60_exceptions.md R165, R167): each fact is proved over the moves that a step can make. -/

namespace Sys2Proof.Machine

open Sys2Proof.Statements

/-! ### The configuration (R28) -/

theorem WorkerMove.cfg {s t : State} (h : WorkerMove s t) : t.cfg = s.cfg := by
  cases h with
  | overflow rest hp => exact (State.makeRoom_frame _ _).cfg
  | fire rest hp hfires => exact (s.fire_frame _).cfg
  | offer hi bytes rest hr => exact State.enqueue_cfg _ bytes
  | append | stop | dispatch | report | wake | sleep | wait | drain => rfl

theorem PortMove.cfg {s t : State} {i : Instr} (h : PortMove s i t) : t.cfg = s.cfg := by
  cases h with
  | ingest chunk => exact (s.ingestChunk_frame chunk).cfg
  | enqueue bytes => exact s.enqueue_cfg bytes
  | dispatch | answer => rfl

theorem Move.cfg {s t : State} (h : Move s t) : t.cfg = s.cfg := by
  cases h with
  | worker is h => exact h.cfg.trans rfl
  | notify chunk is hin => exact State.arrive_cfg _ chunk
  | port i is hin hb h => exact h.cfg.trans rfl
  | sent n is hin => exact State.feedWire_cfg _ n
  | reset | transport | grain => rfl

/-! ### Safe states (R20, R33, R113) -/

/-- All that `safe` says, by name. -/
structure SafeFacts (s : State) : Prop where
  config : configOk s.cfg = true
  buf : s.buf.length ≤ s.cfg.cap
  piece : s.pieceFits = true
  inbound : s.inbound.length ≤ s.cfg.qinCap
  outbound : s.outbound.length ≤ s.cfg.qoutCap
  settled : s.settled = true

theorem State.safe_iff (s : State) : s.safe = true ↔ SafeFacts s := by
  simp only [State.safe, State.withinCapacity, Bool.and_eq_true, decide_eq_true_eq, Memory.wf_iff]
  exact ⟨fun ⟨⟨hc, ⟨⟨hb, hp⟩, hi⟩, ho⟩, hs⟩ => ⟨hc, hb, hp, hi, ho, hs⟩,
    fun ⟨hc, hb, hp, hi, ho, hs⟩ => ⟨⟨hc, ⟨⟨hb, hp⟩, hi⟩, ho⟩, hs⟩⟩

/-- Outside the append and the loop the buffer is at a fixed point (R113). -/
theorem SafeFacts.fixed {s : State} (h : SafeFacts s) (hi : s.inIngest = false) : loopFixed s.cfg s.buf = true := by
  have hs := h.settled
  obtain hp | hp := State.phase_of_not_inIngest hi <;> simpa only [State.settled, hp] using hs

/-- Safety reads the configuration, the buffer, the worker's position and the sizes of the queues. -/
theorem SafeFacts.congr {s t : State} (h : SafeFacts s) (hcfg : t.cfg = s.cfg) (hbuf : t.buf = s.buf)
    (hphase : t.phase = s.phase) (hin : t.inbound.length ≤ s.cfg.qinCap) (hout : t.outbound.length ≤ s.cfg.qoutCap) :
    SafeFacts t where
  config := hcfg ▸ h.config
  buf := by rw [hcfg, hbuf]; exact h.buf
  piece := by
    have hpiece := h.piece
    unfold State.pieceFits at hpiece ⊢
    rwa [hcfg, hbuf, hphase]
  inbound := by rwa [hcfg]
  outbound := by rwa [hcfg]
  settled := by
    have hsettled := h.settled
    unfold State.settled at hsettled ⊢
    rwa [hcfg, hbuf, hphase]

/-- A state at a fixed point is safe wherever no piece waits to be appended: a fixed point leaves room (R113). -/
theorem SafeFacts.of_fixed {s t : State} (h : SafeFacts s) (hcfg : t.cfg = s.cfg) (hfixed : loopFixed s.cfg t.buf = true)
    (hphase : ∀ piece rest, t.phase ≠ .append piece rest) (hin : t.inbound.length ≤ s.cfg.qinCap)
    (hout : t.outbound.length ≤ s.cfg.qoutCap) : SafeFacts t where
  config := hcfg ▸ h.config
  buf := by
    have hroom := ((configOk_iff s.cfg).mp h.config).room
    have hlen := fixed_length_le hfixed
    rw [hcfg]
    omega
  piece := by
    cases hp : t.phase with
    | append piece rest => exact absurd hp (hphase piece rest)
    | top | waiting | overflow | loop => simp only [State.pieceFits, hp]
  inbound := by rwa [hcfg]
  outbound := by rwa [hcfg]
  settled := by
    cases hp : t.phase with
    | append piece rest => exact absurd hp (hphase piece rest)
    | loop rest => simp only [State.settled, hp]
    | top | waiting | overflow => simpa only [State.settled, hp, hcfg] using hfixed

/-- Inside the loop only the capacities count. -/
theorem SafeFacts.of_loop {s t : State} (h : SafeFacts s) (hcfg : t.cfg = s.cfg) {rest : List Byte}
    (hphase : t.phase = .loop rest) (hbuf : t.buf.length ≤ s.cfg.cap) (hin : t.inbound = s.inbound)
    (hout : t.outbound = s.outbound) : SafeFacts t where
  config := hcfg ▸ h.config
  buf := by rwa [hcfg]
  piece := by simp only [State.pieceFits, hphase]
  inbound := by rw [hcfg, hin]; exact h.inbound
  outbound := by rw [hcfg, hout]; exact h.outbound
  settled := by simp only [State.settled, hphase]

/-- Room has been made for the piece that is about to be appended (R102). -/
theorem SafeFacts.makeRoom {s : State} (h : SafeFacts s) {piece rest : List Byte} (hlen : piece.length ≤ s.cfg.cap) :
    SafeFacts (({ s with phase := .append piece rest } : State).makeRoom piece.length) := by
  have hframe := ({ s with phase := .append piece rest } : State).makeRoom_frame piece.length
  have hfit := ({ s with phase := .append piece rest } : State).makeRoom_fits piece.length hlen
  exact {
    config := by rw [hframe.cfg]; exact h.config
    buf := by rw [hframe.cfg]; exact le_trans (Nat.le_add_right _ _) hfit
    piece := by
      simp only [State.pieceFits, hframe.phase, hframe.cfg, decide_eq_true_eq]
      exact hfit
    inbound := by rw [hframe.cfg, hframe.inbound]; exact h.inbound
    outbound := by rw [hframe.cfg, hframe.outbound]; exact h.outbound
    settled := by simp only [State.settled, hframe.phase] }

/-- TX.ENQUEUE keeps the outbound queue within its capacity (R155). -/
theorem SafeFacts.enqueue {s : State} (h : SafeFacts s) (bytes : List Byte) : SafeFacts (s.enqueue bytes) := by
  have hframe := s.enqueue_frame bytes
  refine h.congr hframe.cfg hframe.buf hframe.phase (by rw [hframe.inbound]; exact h.inbound) ?_
  have hout := h.outbound
  obtain ⟨-, he⟩ | ⟨-, -, he⟩ | ⟨-, hfit, he⟩ := s.enqueue_cases bytes <;> rw [he]
  · exact hout
  · exact hout
  · rw [List.length_append]
    omega

/-- An arrival keeps the inbound queue within its capacity (R151). -/
theorem SafeFacts.arrive {s : State} (h : SafeFacts s) (chunk : List Byte) : SafeFacts (s.arrive chunk) := by
  refine h.congr (s.arrive_cfg chunk) (s.arrive_buf chunk) (s.arrive_phase chunk) ?_
    (by rw [State.arrive_outbound]; exact h.outbound)
  obtain ⟨hfit, he⟩ | ⟨-, q, -, hq, he⟩ := s.arrive_cases chunk <;> rw [he]
  · rwa [List.length_append]
  · exact hq

/-- What leaves for the wire leaves the outbound queue (R157). -/
theorem SafeFacts.feedWire {s : State} (h : SafeFacts s) (n : Nat) : SafeFacts (s.feedWire n) := by
  refine h.congr (s.feedWire_cfg n) (s.feedWire_buf n) (s.feedWire_phase n) (by rw [State.feedWire_inbound]; exact h.inbound) ?_
  have hout := h.outbound
  unfold State.feedWire
  split
  · rw [List.length_drop]
    omega
  · exact hout

theorem afterStop_ne_append (rest piece rest' : List Byte) : afterStop rest ≠ .append piece rest' := by
  unfold afterStop
  split <;> exact Phase.noConfusion

/-- Outside `ingest` no piece waits to be appended. -/
theorem State.phase_ne_append {s : State} (hi : s.inIngest = false) (piece rest : List Byte) :
    s.phase ≠ .append piece rest := by
  intro hp
  simp only [State.inIngest, hp] at hi
  cases hi

theorem WorkerMove.safe {s t : State} (h : WorkerMove s t) (hs : SafeFacts s) : SafeFacts t := by
  cases h with
  | overflow rest hp => exact hs.makeRoom (List.length_take_le _ _)
  | append piece rest hp hfit => exact hs.of_loop rfl rfl (by simpa using hfit) rfl rfl
  | stop rest hp hfixed => exact hs.of_fixed rfl hfixed (afterStop_ne_append rest) hs.inbound hs.outbound
  | fire rest hp hfires =>
    have hframe := s.fire_frame (asmSelect s.cfg s.buf)
    have hwf := s.fire_wf (asmSelect s.cfg s.buf) s.cfg.cap ((Memory.wf_iff _ _).mpr hs.buf)
    exact hs.of_loop hframe.cfg (hframe.phase.trans hp) ((Memory.wf_iff _ _).mp hwf) hframe.inbound hframe.outbound
  | offer hi bytes rest hr =>
    have hs' : SafeFacts { s with replies := rest } := hs.congr rfl rfl rfl hs.inbound hs.outbound
    exact hs'.enqueue bytes
  | dispatch | report | sleep => exact hs.congr rfl rfl rfl hs.inbound hs.outbound
  | wake hb | wait hb =>
    exact hs.of_fixed rfl (hs.fixed (State.not_busy hb).1) (fun _ _ => Phase.noConfusion) hs.inbound hs.outbound
  | drain hb hp hq =>
    have hin := hs.inbound
    refine hs.of_fixed rfl (hs.fixed (State.not_busy hb).1) (fun _ _ => Phase.noConfusion) ?_ hs.outbound
    simp only [State.takeDrained_inbound, List.length_drop]
    omega

theorem PortMove.safe {s t : State} {i : Instr} (h : PortMove s i t) (hi : s.inIngest = false) (hs : SafeFacts s) :
    SafeFacts t := by
  cases h with
  | ingest chunk =>
    have hframe := s.ingestChunk_frame chunk
    refine hs.of_fixed hframe.cfg (s.ingestChunk_fixed chunk) ?_ (by rw [hframe.inbound]; exact hs.inbound)
      (by rw [hframe.outbound]; exact hs.outbound)
    rw [hframe.phase]
    exact State.phase_ne_append hi
  | enqueue bytes => exact hs.enqueue bytes
  | dispatch | answer => exact hs.congr rfl rfl rfl hs.inbound hs.outbound

theorem Move.safe {s t : State} (h : Move s t) (hs : SafeFacts s) : SafeFacts t := by
  have htaken : ∀ is, SafeFacts { s with inputs := is } := fun is => hs.congr rfl rfl rfl hs.inbound hs.outbound
  cases h with
  | worker is h => exact h.safe (htaken is)
  | notify chunk is hin => exact (htaken is).arrive chunk
  | reset is hin hn => exact hs.of_fixed rfl rfl (State.phase_ne_append hn) hs.inbound hs.outbound
  | port i is hin hb h => exact h.safe (State.not_busy hb).1 (htaken is)
  | sent n is hin => exact (htaken is).feedWire n
  | transport | grain => exact hs.congr rfl rfl rfl hs.inbound hs.outbound

/-! ### The buffer's ends (R23, R24) -/

/-- From `s` to `t` the bytes `added` entered the buffer at the back, some left at the front, and the cursor counted those. -/
def BufferStep (s t : State) (added : List Byte) : Prop :=
  ∃ n, n ≤ (s.buf ++ added).length ∧ t.buf = (s.buf ++ added).drop n ∧ t.pos = s.pos + n

theorem BufferStep.of_eq {s t : State} (hbuf : t.buf = s.buf) (hpos : t.pos = s.pos) : BufferStep s t [] :=
  ⟨0, Nat.zero_le _, by rw [hbuf, List.append_nil, List.drop_zero], by rw [hpos, Nat.add_zero]⟩

theorem BufferStep.of_recover {s : State} {e : Event} {n : Nat} (h : n ≤ s.buf.length) : BufferStep s (s.recover e n) [] :=
  ⟨n, by rwa [List.append_nil], by rw [State.recover_buf, List.append_nil], State.recover_pos s e n⟩

/-- The overflow check of a piece discards no more than is there (R102, R103). -/
theorem BufferStep.of_makeRoom {s : State} {n : Nat} (h : n ≤ s.cfg.cap) : BufferStep s (s.makeRoom n) [] := by
  obtain ⟨-, hroom⟩ | ⟨-, hroom⟩ := s.makeRoom_cases n <;> rw [hroom]
  · exact .of_eq rfl rfl
  · exact .of_recover (by omega)

theorem WorkerMove.buffer {s t : State} (h : WorkerMove s t) :
    ∃ added, BufferStep s t added ∧ (added = [] ∨ ∃ rest, s.phase = .append added rest) := by
  cases h with
  | overflow rest hp =>
    rw [State.makeRoom_phase]
    exact ⟨[], BufferStep.of_makeRoom (s := s) (List.length_take_le _ _), .inl rfl⟩
  | append piece rest hp hfit => exact ⟨piece, ⟨0, Nat.zero_le _, rfl, rfl⟩, .inr ⟨rest, hp⟩⟩
  | fire rest hp hfires =>
    obtain ⟨e, n, -, hn, hfire⟩ := s.fire_progress hfires
    rw [hfire]
    exact ⟨[], .of_recover hn, .inl rfl⟩
  | offer hi bytes rest hr =>
    exact ⟨[], .of_eq (State.enqueue_buf _ bytes) (State.enqueue_pos _ bytes), .inl rfl⟩
  | stop | dispatch | report | wake | sleep | wait | drain => exact ⟨[], .of_eq rfl rfl, .inl rfl⟩

theorem PortMove.buffer {s t : State} {i : Instr} (hc : configOk s.cfg = true) (h : PortMove s i t) :
    ∃ added, BufferStep s t added ∧ (added = [] ∨ i = .ingest added) := by
  cases h with
  | ingest chunk => exact ⟨chunk, State.ingestChunk_drops hc chunk, .inr rfl⟩
  | enqueue bytes => exact ⟨[], .of_eq (s.enqueue_buf bytes) (s.enqueue_pos bytes), .inl rfl⟩
  | dispatch | answer => exact ⟨[], .of_eq rfl rfl, .inl rfl⟩

theorem Move.buffer {s t : State} (hc : configOk s.cfg = true) (h : Move s t) :
    ∃ added, BufferStep s t added ∧
      (added = [] ∨ (∃ rest, s.phase = .append added rest) ∨ ∃ is, s.inputs = .call (.ingest added) :: is) := by
  cases h with
  | worker is h =>
    obtain ⟨added, hbuf, hadded⟩ := h.buffer
    exact ⟨added, hbuf, hadded.imp id .inl⟩
  | notify chunk is hin => exact ⟨[], .of_eq (State.arrive_buf _ chunk) (State.arrive_pos _ chunk), .inl rfl⟩
  | reset is hin hn =>
    refine ⟨[], ⟨s.buf.length, by rw [List.append_nil], ?_, rfl⟩, .inl rfl⟩
    rw [List.append_nil, List.drop_length]
    rfl
  | port i is hin hb h =>
    obtain ⟨added, hbuf, rfl | rfl⟩ := PortMove.buffer (s := { s with inputs := is }) hc h
    · exact ⟨[], hbuf, .inl rfl⟩
    · exact ⟨added, hbuf, .inr (.inr ⟨is, hin⟩)⟩
  | sent n is hin => exact ⟨[], .of_eq (State.feedWire_buf _ n) (State.feedWire_pos _ n), .inl rfl⟩
  | transport | grain => exact ⟨[], .of_eq rfl rfl, .inl rfl⟩

/-! ### The outbound bytes (R155, R157) -/

/-- From `s` to `t` the bytes `added` joined those on the wire and in the outbound queue, at the end. -/
def OutboundStep (s t : State) (added : List Byte) : Prop := t.wire ++ t.outbound = s.wire ++ s.outbound ++ added

theorem OutboundStep.of_eq {s t : State} (hwire : t.wire = s.wire) (hout : t.outbound = s.outbound) :
    OutboundStep s t [] := by
  rw [OutboundStep, hwire, hout, List.append_nil]

/-- A frame is queued whole or not at all (R155). -/
theorem State.enqueue_outboundStep (s : State) (bytes : List Byte) :
    ∃ added, OutboundStep s (s.enqueue bytes) added ∧ (added = [] ∨ added = bytes) := by
  obtain ⟨-, he⟩ | ⟨-, -, he⟩ | ⟨-, -, he⟩ := s.enqueue_cases bytes <;> rw [he]
  · exact ⟨[], .of_eq rfl rfl, .inl rfl⟩
  · exact ⟨[], .of_eq rfl rfl, .inl rfl⟩
  · exact ⟨bytes, (List.append_assoc _ _ _).symm, .inr rfl⟩

/-- The wire takes the queue's bytes in order (R157). -/
theorem State.feedWire_outboundStep (s : State) (n : Nat) : OutboundStep s (s.feedWire n) [] := by
  unfold State.feedWire
  split
  · rw [OutboundStep, List.append_assoc, List.take_append_drop, List.append_nil]
  · exact .of_eq rfl rfl

theorem AssemblerFrame.outboundStep {s t : State} (h : AssemblerFrame s t) : OutboundStep s t [] :=
  .of_eq h.wire h.outbound

theorem WorkerMove.outbound {s t : State} (h : WorkerMove s t) :
    ∃ added, OutboundStep s t added ∧ (added = [] ∨ ∃ rest, s.replies = added :: rest) := by
  cases h with
  | overflow rest hp =>
    rw [State.makeRoom_phase]
    exact ⟨[], (s.makeRoom_frame _).outboundStep, .inl rfl⟩
  | fire rest hp hfires => exact ⟨[], (s.fire_frame _).outboundStep, .inl rfl⟩
  | offer hi bytes rest hr =>
    obtain ⟨added, hstep, rfl | rfl⟩ := State.enqueue_outboundStep { s with replies := rest } bytes
    · exact ⟨[], hstep, .inl rfl⟩
    · exact ⟨added, hstep, .inr ⟨rest, hr⟩⟩
  | append | stop | dispatch | report | wake | sleep | wait | drain => exact ⟨[], .of_eq rfl rfl, .inl rfl⟩

theorem PortMove.outbound {s t : State} {i : Instr} (h : PortMove s i t) :
    ∃ added, OutboundStep s t added ∧ (added = [] ∨ i = .txEnqueue added) := by
  cases h with
  | ingest chunk => exact ⟨[], (s.ingestChunk_frame chunk).outboundStep, .inl rfl⟩
  | enqueue bytes =>
    obtain ⟨added, hstep, rfl | rfl⟩ := s.enqueue_outboundStep bytes
    · exact ⟨[], hstep, .inl rfl⟩
    · exact ⟨added, hstep, .inr rfl⟩
  | dispatch | answer => exact ⟨[], .of_eq rfl rfl, .inl rfl⟩

theorem Move.outbound {s t : State} (h : Move s t) :
    ∃ added, OutboundStep s t added ∧
      (added = [] ∨ (∃ rest, s.replies = added :: rest) ∨ ∃ is, s.inputs = .call (.txEnqueue added) :: is) := by
  cases h with
  | worker is h =>
    obtain ⟨added, hstep, hadded⟩ := h.outbound
    exact ⟨added, hstep, hadded.imp id .inl⟩
  | notify chunk is hin => exact ⟨[], .of_eq (State.arrive_wire _ chunk) (State.arrive_outbound _ chunk), .inl rfl⟩
  | port i is hin hb h =>
    obtain ⟨added, hstep, rfl | rfl⟩ := h.outbound
    · exact ⟨[], hstep, .inl rfl⟩
    · exact ⟨added, hstep, .inr (.inr ⟨is, hin⟩)⟩
  | sent n is hin => exact ⟨[], State.feedWire_outboundStep { s with inputs := is } n, .inl rfl⟩
  | reset | transport | grain => exact ⟨[], .of_eq rfl rfl, .inl rfl⟩

/-! ### Inside `ingest` (R167) -/

/-- From `s` to `t` nothing was sent or made ready to send. -/
structure Silent (s t : State) : Prop where
  replies : t.replies = s.replies
  outbound : t.outbound = s.outbound
  wire : t.wire = s.wire

theorem AssemblerFrame.silent {s t : State} (h : AssemblerFrame s t) : Silent s t := ⟨h.replies, h.outbound, h.wire⟩

theorem WorkerMove.silent {s t : State} (h : WorkerMove s t) (hi : s.inIngest = true) : Silent s t := by
  cases h with
  | overflow rest hp =>
    rw [State.makeRoom_phase]
    have hframe := s.makeRoom_frame (rest.take s.cfg.cap).length
    exact ⟨hframe.replies, hframe.outbound, hframe.wire⟩
  | append | stop => exact ⟨rfl, rfl, rfl⟩
  | fire rest hp hfires => exact (s.fire_frame _).silent
  | offer hn | dispatch hn | report hn => cases hn.symm.trans hi
  | wake hb | sleep hb | wait hb | drain hb => cases (State.not_busy hb).1.symm.trans hi

/-! ### The obligations -/

/-- Settles O53: every move from a safe state leads to one. -/
theorem stepKeepsSafe : Obligations.StepKeepsSafe := fun s t hs h =>
  t.safe_iff.mpr ((Move.of_step h).2.safe (s.safe_iff.mp hs))

/-- Settles O54: in a safe state a waiting piece fits, and the environment's call is a port's that can be answered. -/
theorem safeStatesNeverStop : Obligations.SafeStatesNeverStop := by
  intro s hs hok
  have hfacts := s.safe_iff.mp hs
  obtain ⟨t, hstep, hmove⟩ | ⟨hstops, -⟩ := step_cases hfacts.config
  · exact ⟨t, hstep, t.safe_iff.mpr (hmove.safe hfacts)⟩
  · obtain hfit | ⟨i, is, hin, hcall⟩ := hstops
    · cases hfacts.piece.symm.trans hfit
    · rw [nextInputOk, hin] at hok
      obtain ⟨hport, hbody⟩ := hok
      exact absurd hbody (hcall.resolve_left hport)

/-- Settles O55: no move changes the configuration. -/
theorem configurationIsConstant : Obligations.ConfigurationIsConstant := fun _ _ h => (Move.of_step h).2.cfg

/-- Settles O56: every move changes the buffer at its ends only. -/
theorem bufferChangesOnlyAtItsEnds : Obligations.BufferChangesOnlyAtItsEnds := by
  intro s t h
  obtain ⟨hc, hmove⟩ := Move.of_step h
  obtain ⟨added, ⟨n, hn, hbuf, hpos⟩, hadded⟩ := hmove.buffer hc
  exact ⟨added, n, hn, hbuf, hpos, hadded⟩

/-- Settles O57: only TX.ENQUEUE adds outbound bytes, and feeding the wire keeps their order. -/
theorem outboundGrowsByWholeFrames : Obligations.OutboundGrowsByWholeFrames := fun _ _ h => (Move.of_step h).2.outbound

/-- Settles O58: with no input listed the step is a worker's move, and those inside `ingest` are silent. -/
theorem framingErrorsAreSilent : Obligations.FramingErrorsAreSilent := by
  intro s t hi hin h
  have hc := (Move.of_step h).1
  have hturn : s.workerTurn.perform = .next t := by
    rw [← h, step_eq_perform hc, State.nextAction, hin]
  have hsilent := (WorkerMove.of_perform hc hturn).silent hi
  exact ⟨hsilent.replies, hsilent.outbound, hsilent.wire⟩

end Sys2Proof.Machine

/-! PROOFS. The steps of the worker and of the environment, one by one (spec/00_scope.md R8, R9, R11, spec/42_assembler.md R112,
spec/44_transport_boundary.md R151 to R157, spec/60_exceptions.md R169). -/

namespace Sys2Proof.Machine

open Sys2Proof.Statements

/-! ### What the next action is -/

section NextAction

variable {s : State}

theorem State.nextAction_of_nil (hi : s.inputs = []) : s.nextAction = s.workerTurn := by
  rw [State.nextAction, hi]

theorem State.nextAction_of_work {is : List Input} (hi : s.inputs = .work :: is) :
    s.nextAction = ({ s with inputs := is } : State).workerTurn := by
  rw [State.nextAction, hi]

theorem State.nextAction_of_call {i : Instr} {is : List Input} (hi : s.inputs = .call i :: is) :
    s.nextAction = s.callTurn i is := by
  rw [State.nextAction, hi]

/-- With no input listed a step is the worker's turn. -/
theorem step_eq_workerTurn (hc : configOk s.cfg = true) (hi : s.inputs = []) : step s = s.workerTurn.perform := by
  rw [step_eq_perform hc, State.nextAction_of_nil hi]

/-- Inside the loop, with no input listed, a step is the selected one (R101). -/
theorem step_loop {rest : List Byte} (hc : configOk s.cfg = true) (hi : s.inputs = []) (hp : s.phase = .loop rest) :
    step s = exec (asmInstr (asmSelect s.cfg s.buf)) s := by
  rw [step_eq_workerTurn hc hi, State.workerTurn_of_loop hp]
  rfl

/-- Outside `ingest`, with no input listed, a step hands an output over or is the loop's (R49, R153). -/
theorem step_eq_outputTurn (hc : configOk s.cfg = true) (hi : s.inputs = []) (hn : s.inIngest = false) :
    step s = s.outputTurn.perform := by
  rw [step_eq_workerTurn hc hi, State.workerTurn_of_not_inIngest hn]

/-- Between operations, with no input listed, a step is the loop's (R153). -/
theorem step_idle (hc : configOk s.cfg = true) (hi : s.inputs = []) (hb : s.busy = false) :
    step s = .next s.idleTurn := by
  rw [step_eq_workerTurn hc hi, State.workerTurn_of_not_busy hb]
  rfl

end NextAction

theorem State.inIngest_eq_false {s : State} (h : s.phase = .top ∨ s.phase = .waiting) : s.inIngest = false := by
  obtain hp | hp := h <;> simp only [State.inIngest, hp]

/-! ### One iteration of the loop (R112) -/

/-- An iteration that fires reports one event and removes 1, 2 or `L + 6` bytes that are there. -/
theorem State.fire_amount {s : State} (h : (asmSelect s.cfg s.buf).stops = false) :
    ∃ e n, 1 ≤ n ∧ n ≤ s.buf.length ∧ (n = 1 ∨ n = 2 ∨ n = declaredLength s.buf + 6) ∧
      s.fire (asmSelect s.cfg s.buf) = s.recover e n := by
  obtain ⟨e, n, h1, hn, hfire⟩ := s.fire_progress h
  refine ⟨e, n, h1, hn, ?_, hfire⟩
  have hcursor : ∀ {e' m}, s.fire (asmSelect s.cfg s.buf) = s.recover e' m → n = m := fun hfire' => by
    have hpos := congrArg State.pos (hfire.symm.trans hfire')
    simpa using hpos
  obtain ⟨-, hf⟩ | ⟨r, -, hf⟩ | ⟨-, hf⟩ | ⟨-, hf⟩ | ⟨-, hf⟩ := s.fire_cases _ h
  · exact .inr (.inl (hcursor hf))
  · exact .inr (.inl (hcursor hf))
  · exact .inl (hcursor hf)
  · exact .inl (hcursor hf)
  · exact .inr (.inr (hcursor hf))

/-! ### The worker's turn does not read the inputs (log 7) -/

section Inputs

variable (is : List Input) (s : State)

theorem State.makeRoom_withInputs (n : Nat) :
    ({ s with inputs := is } : State).makeRoom n = { s.makeRoom n with inputs := is } := by
  unfold State.makeRoom
  show (if s.cfg.cap < s.buf.length + n then _ else _) = _
  split <;> rfl

theorem State.stopLoop_withInputs :
    ({ s with inputs := is } : State).stopLoop = { s.stopLoop with inputs := is } := by
  obtain ⟨_, _, _, _, _, phase, _⟩ := s
  cases phase with
  | loop rest => cases rest <;> rfl
  | top | waiting | overflow | append => rfl

theorem State.fire_withInputs (a : AsmStep) :
    ({ s with inputs := is } : State).fire a = { s.fire a with inputs := is } := by
  cases a <;> rfl

theorem State.enqueue_withInputs (b : List Byte) :
    ({ s with inputs := is } : State).enqueue b = { s.enqueue b with inputs := is } := by
  unfold State.enqueue
  show (match txAnswer s.cfg.qoutCap s.ready s.outbound b with
    | .ok => _ | .resourceExhausted => _ | .notReady => _) = _
  cases txAnswer s.cfg.qoutCap s.ready s.outbound b <;> rfl

theorem State.idleTurn_withInputs :
    ({ s with inputs := is } : State).idleTurn = { s.idleTurn with inputs := is } := by
  obtain ⟨_, _, _, _, _, phase, inbound, _, wake, _⟩ := s
  cases phase with
  | top => cases inbound <;> rfl
  | waiting => cases wake <;> rfl
  | overflow | append | loop => rfl

end Inputs

section InputsKept

variable {s : State} (hc : configOk s.cfg = true) (is : List Input)

include hc

theorem exec_asmOverflow_withInputs {chunk : List Byte} (h : chunk.length ≤ s.cfg.cap) :
    exec (.asmOverflow chunk) { s with inputs := is } = keepInputs is (exec (.asmOverflow chunk) s) := by
  rw [exec_asmOverflow hc h, exec_asmOverflow (s := { s with inputs := is }) hc h]
  exact congrArg _ (s.makeRoom_withInputs is _)

theorem exec_asmAppend_withInputs (chunk : List Byte) :
    exec (.asmAppend chunk) { s with inputs := is } = keepInputs is (exec (.asmAppend chunk) s) := by
  by_cases hfit : s.buf.length + chunk.length ≤ s.cfg.cap
  · rw [exec_asmAppend hc hfit, exec_asmAppend (s := { s with inputs := is }) hc hfit]
    rfl
  · have hbeyond : s.cfg.cap < s.buf.length + chunk.length := by omega
    rw [exec_asmAppend_beyond hc hbeyond, exec_asmAppend_beyond (s := { s with inputs := is }) hc hbeyond]
    rfl

theorem exec_selected_withInputs :
    exec (asmInstr (asmSelect s.cfg s.buf)) { s with inputs := is } =
      keepInputs is (exec (asmInstr (asmSelect s.cfg s.buf)) s) := by
  rw [exec_selected s hc, exec_of_asmSelect (s := { s with inputs := is }) hc rfl]
  by_cases hstops : (asmSelect s.cfg s.buf).stops = true
  · rw [if_pos hstops, if_pos hstops]
    exact congrArg _ (s.stopLoop_withInputs is)
  · rw [if_neg hstops, if_neg hstops]
    exact congrArg _ (s.fire_withInputs is _)

theorem exec_txEnqueue_withInputs (bytes : List Byte) :
    exec (.txEnqueue bytes) { s with inputs := is } = keepInputs is (exec (.txEnqueue bytes) s) := by
  rw [exec_txEnqueue hc, exec_txEnqueue (s := { s with inputs := is }) hc]
  exact congrArg _ (s.enqueue_withInputs is bytes)

theorem exec_classify_withInputs (fr : Frame) :
    exec (classify s.cfg fr) { s with inputs := is } = keepInputs is (exec (classify s.cfg fr) s) := by
  rw [exec_classify fr s, exec_classify fr { s with inputs := is }, exec_dispatch hc,
    exec_dispatch (s := { s with inputs := is }) hc]
  rfl

theorem perform_outputTurn_withInputs :
    ({ s with inputs := is } : State).outputTurn.perform = keepInputs is s.outputTurn.perform := by
  obtain ⟨replies, hr⟩ : ∃ replies, s.replies = replies := ⟨_, rfl⟩
  cases replies with
  | cons bytes rest =>
    rw [State.outputTurn_of_reply hr, State.outputTurn_of_reply (s := { s with inputs := is }) hr]
    exact exec_txEnqueue_withInputs (s := { s with replies := rest }) hc is bytes
  | nil =>
    obtain ⟨events, he⟩ : ∃ events, s.events = events := ⟨_, rfl⟩
    cases events with
    | cons e rest =>
      cases e with
      | frame fr =>
        rw [State.outputTurn_of_frame hr he, State.outputTurn_of_frame (s := { s with inputs := is }) hr he]
        exact exec_classify_withInputs (s := { s with events := rest }) hc is fr
      | loss d =>
        rw [State.outputTurn_of_loss hr he, State.outputTurn_of_loss (s := { s with inputs := is }) hr he]
        rfl
      | resync c =>
        rw [State.outputTurn_of_resync hr he, State.outputTurn_of_resync (s := { s with inputs := is }) hr he]
        rfl
    | nil =>
      rw [State.outputTurn_of_idle hr he, State.outputTurn_of_idle (s := { s with inputs := is }) hr he]
      exact congrArg _ (s.idleTurn_withInputs is)

theorem perform_workerTurn_withInputs :
    ({ s with inputs := is } : State).workerTurn.perform = keepInputs is s.workerTurn.perform := by
  obtain ⟨phase, hp⟩ : ∃ phase, s.phase = phase := ⟨_, rfl⟩
  cases phase with
  | top | waiting =>
    have hn : s.inIngest = false := by simp only [State.inIngest, hp]
    rw [State.workerTurn_of_not_inIngest hn, State.workerTurn_of_not_inIngest (s := { s with inputs := is }) hn]
    exact perform_outputTurn_withInputs hc is
  | overflow rest =>
    rw [State.workerTurn_of_overflow hp, State.workerTurn_of_overflow (s := { s with inputs := is }) hp]
    exact exec_asmOverflow_withInputs (s := { s with phase := .append (rest.take s.cfg.cap) (rest.drop s.cfg.cap) }) hc is
      (List.length_take_le _ _)
  | append piece rest =>
    rw [State.workerTurn_of_append hp, State.workerTurn_of_append (s := { s with inputs := is }) hp]
    exact exec_asmAppend_withInputs (s := { s with phase := .loop rest }) hc is piece
  | loop rest =>
    rw [State.workerTurn_of_loop hp, State.workerTurn_of_loop (s := { s with inputs := is }) hp]
    exact exec_selected_withInputs hc is

/-- The worker's turn with any inputs left is the step with none listed, the inputs put back. -/
theorem perform_workerTurn_eq_workersTurn :
    ({ s with inputs := is } : State).workerTurn.perform = workersTurn s is := by
  rw [workersTurn, step_eq_workerTurn (s := { s with inputs := [] }) hc rfl]
  exact perform_workerTurn_withInputs (s := { s with inputs := [] }) hc is

end InputsKept

/-! ### Refused configurations (R11) -/

/-- Every step is refused under a configuration that breaks a constraint. -/
theorem step_of_badConfig {s : State} (h : ¬ ConfigFacts s.cfg) : step s = .refused .badConfiguration := by
  rw [step, if_neg (fun hc => h ((configOk_iff s.cfg).mp hc))]

/-! ### The obligations -/

/-- Settles O32: the selected step stops the loop, or fires and drops what it may. -/
theorem loopIterationsMakeProgress : Obligations.LoopIterationsMakeProgress := by
  intro s rest hc hp hi
  rw [step_loop hc hi hp, exec_selected s hc]
  by_cases hstops : (asmSelect s.cfg s.buf).stops = true
  · left
    rw [if_pos hstops, State.stopLoop_of_loop hp]
  · right
    obtain ⟨e, n, h1, hn, hamount, hfire⟩ := State.fire_amount (by simpa using hstops)
    exact ⟨e, n, h1, hn, hamount, by rw [if_neg hstops, hfire]; rfl⟩

/-- Settles O50: bytes that decode are a control frame's two, or a complete candidate with its own checksum. -/
theorem loopEmitsTheDecodableUnit : Obligations.LoopEmitsTheDecodableUnit := by
  intro s bytes rest chunk fr hc hp hi hbuf hd hlen
  obtain ⟨hread, rfl⟩ := of_decodeFrame hd
  rw [step_loop hc hi hp]
  cases fr with
  | ctrl c =>
    have hfront : frontCtrl s.cfg s.buf = some c := by
      rw [hbuf, frontCtrl_append_left _ _ _ (by cases c <;> exact le_rfl), frontCtrl_encodeFrame_ctrl hc]
    cases c with
    | ack =>
      rw [exec_selected s hc, asmSelect_of_ack hfront]
      show Host.Outcome.next { s with buf := s.buf.drop 2, events := _, pos := _ } = _
      rw [hbuf]
      rfl
    | nak r =>
      rw [exec_selected s hc, asmSelect_of_nak hfront]
      show Host.Outcome.next { s with buf := s.buf.drop 2, events := _, pos := _ } = _
      rw [hbuf]
      rfl
  | full t1 t2 body =>
    obtain ⟨hctrl, hbody⟩ := hread
    have hmax : body.length ≤ s.cfg.lmax := by
      simp only [encodeFrame, encodeFull_length] at hlen
      omega
    obtain ⟨hi, lo, kh, kl, hl, hk, hbytes⟩ := fullBytes_eq_candidate t1 t2 hbody
    have hencoded : encodeFrame s.cfg (.full t1 t2 body) = t1 :: t2 :: hi :: lo :: (body ++ [kh, kl]) := by
      rw [← hbytes]
      exact encodeFull_eq_fullBytes t1 t2 hbody
    have hfront : s.buf = t1 :: t2 :: hi :: lo :: (body ++ kh :: kl :: rest) := by
      rw [hbuf, hencoded]
      simp only [List.cons_append, List.append_assoc, List.nil_append]
    have hn : noControl s.cfg (t1 :: t2 :: hi :: lo :: (body ++ kh :: kl :: rest)) :=
      (frontCtrl_eq_none_iff _ _).mp hctrl
    have hsel : asmSelect s.cfg s.buf = .emitFull := by
      rw [hfront, asmSelect_candidate hc hl hmax hn, if_pos hk]
    rw [hsel, show asmInstr .emitFull = .asmEmitFull from rfl, exec_asmEmitFull hc hsel,
      State.fireEmitFull_candidate hfront hl]
    simp only [encodeFrame, encodeFull_length]

/-- Settles O49: the row that the decoder gives is the one that the frame's event fetches. -/
theorem stepRunsTheDecodedUnit : Obligations.StepRunsTheDecodedUnit := by
  intro s bytes fr i rest hc hp hr he hd hdecode
  have hrow : classify s.cfg fr = i := by
    rw [decode, hd] at hdecode
    exact Except.ok.inj hdecode
  have hturn : s.workerTurn = .run i { s with events := rest } := by
    rw [State.workerTurn_of_not_inIngest (State.inIngest_eq_false hp), State.outputTurn_of_frame hr he, hrow]
  refine ⟨fun hi => ?_, fun is hi => ?_⟩
  · rw [step_eq_workerTurn hc hi, hturn]
    rfl
  · rw [step_eq_perform hc, State.nextAction_of_work hi,
      State.workerTurn_of_not_inIngest (s := { s with inputs := is }) (State.inIngest_eq_false hp),
      State.outputTurn_of_frame (s := { s with inputs := is }) hr he]
    exact hrow ▸ rfl

/-- Settles O51: the worker's turn in each of its positions and with each output at hand. -/
theorem stepRunsTheWorkersTurn : Obligations.StepRunsTheWorkersTurn := by
  intro s hc hi
  refine ⟨?overflow, ?append, ?loop, ?reply, ?loss, ?resync, ?wait, ?sleep, ?wake, ?drain⟩
  case overflow =>
    intro rest hp
    rw [step_eq_workerTurn hc hi, State.workerTurn_of_overflow hp]
    rfl
  case append => exact fun piece rest hp => step_append hc hi hp
  case loop => exact fun rest hp => step_loop hc hi hp
  case reply =>
    intro bytes rest hn hr
    rw [step_eq_outputTurn hc hi hn, State.outputTurn_of_reply hr]
    rfl
  case loss =>
    intro d rest hn hr he
    rw [step_eq_outputTurn hc hi hn, State.outputTurn_of_loss hr he]
    rfl
  case resync =>
    intro c rest hn hr he
    rw [step_eq_outputTurn hc hi hn, State.outputTurn_of_resync hr he]
    rfl
  case wait => exact fun hb hp hq => by rw [step_idle hc hi hb, State.idleTurn_of_empty hp hq]
  case sleep => exact fun hb hp hw => by rw [step_idle hc hi hb, State.idleTurn_of_asleep hp hw]
  case wake => exact fun hb hp hw => by rw [step_idle hc hi hb, State.idleTurn_of_woken hp hw]
  case drain =>
    intro hb hp hq
    refine ⟨s.drained, s.takeDrained.inbound, State.drained_ne_nil hq, s.drained_append.symm, ?_⟩
    rw [step_idle hc hi hb, State.idleTurn_of_queued hp hq]
    rfl

/-- Settles O59: each input is a call of one of the four kinds, the worker's turn, or the environment's own move. -/
theorem stepTakesTheEnvironmentsTurn : Obligations.StepTakesTheEnvironmentsTurn := by
  intro s is hc
  have hwaits : s.workerTurn.perform = workersTurn s s.inputs := perform_workerTurn_eq_workersTurn hc s.inputs
  refine ⟨?notify, ?reset, ?port, ?noPort, ?work, ?sent, ?transport, ?grain⟩
  case notify =>
    intro chunk hin
    rw [step_eq_perform hc, State.nextAction_of_call hin]
    rfl
  case reset =>
    intro hin
    rw [step_eq_perform hc, State.nextAction_of_call hin]
    refine ⟨fun hn => ?_, fun hn => ?_⟩
    · rw [← hwaits, State.callTurn, callKind, if_pos hn]
    · rw [State.callTurn, callKind, hn, if_neg Bool.false_ne_true]
      exact exec_bufferReset (s := { s with inputs := is }) hn
  case port =>
    intro i hk hin
    rw [step_eq_perform hc, State.nextAction_of_call hin]
    refine ⟨fun hb => ?_, fun hb => ?_⟩
    · rw [← hwaits, State.callTurn, hk, if_pos hb]
    · rw [State.callTurn, hk, hb, if_neg Bool.false_ne_true]
      rfl
  case noPort =>
    intro i hk hin
    rw [step_eq_perform hc, State.nextAction_of_call hin, State.callTurn, hk]
    rfl
  case work =>
    intro hin
    rw [step_eq_perform hc, State.nextAction_of_work hin, perform_workerTurn_eq_workersTurn hc is]
  case sent =>
    intro n hin
    have hstep : step s = .next (({ s with inputs := is } : State).feedWire n) := by
      rw [step_eq_perform hc, State.nextAction, hin]
      rfl
    rw [hstep]
    refine ⟨fun htx => ?_, fun htx => ?_⟩
    · exact congrArg _ (if_pos htx)
    · exact congrArg _ (if_neg (by rw [htx]; exact Bool.false_ne_true))
  case transport =>
    intro b hin
    rw [step_eq_perform hc, State.nextAction, hin]
    rfl
  case grain =>
    intro n hin
    rw [step_eq_perform hc, State.nextAction, hin]
    rfl

/-- Settles O44: the arrival that fits. -/
theorem notifyAppendsAndWakes : Obligations.NotifyAppendsAndWakes := by
  intro s chunk hc hfit
  obtain ⟨-, harrive⟩ | ⟨hover, -⟩ := s.arrive_cases chunk
  · rw [exec_rxNotify hc, harrive]
  · omega

/-- Settles O45: the arrival that does not fit. -/
theorem notifyToAFullQueueLosesBytes : Obligations.NotifyToAFullQueueLosesBytes := by
  intro s chunk hc hover
  obtain ⟨hfit, -⟩ | ⟨-, q, hsub, hlen, harrive⟩ := s.arrive_cases chunk
  · omega
  · exact ⟨q, hsub, hlen, by rw [exec_rxNotify hc, harrive]⟩

/-- Settles O46: the three answers exclude each other. -/
theorem enqueueIsAllOrNothing : Obligations.EnqueueIsAllOrNothing := by
  intro s bytes hc
  rw [exec_txEnqueue hc]
  obtain ⟨hr, he⟩ | ⟨hr, hroom, he⟩ | ⟨hr, hroom, he⟩ := s.enqueue_cases bytes <;> rw [he]
  · exact ⟨fun _ => rfl, fun h => absurd (hr.symm.trans h) Bool.false_ne_true,
      fun h => absurd (hr.symm.trans h) Bool.false_ne_true⟩
  · exact ⟨fun h => absurd (h.symm.trans hr) Bool.false_ne_true, fun _ _ => rfl, fun _ h => by omega⟩
  · exact ⟨fun h => absurd (h.symm.trans hr) Bool.false_ne_true, fun _ h => by omega, fun _ _ => rfl⟩

/-- Settles O52: the reset state is a literal. -/
theorem resetIsEmptyAndSafe : Obligations.ResetIsEmptyAndSafe := by
  refine ⟨rfl, rfl, rfl, rfl, rfl, rfl, rfl, rfl, rfl, rfl, rfl, rfl, rfl, rfl, rfl, rfl, by decide⟩

/-- Settles O60: each disjunct contradicts the constraint that R11 puts on the configuration. -/
theorem badConfigurationIsRefused : Obligations.BadConfigurationIsRefused := by
  intro s hbad
  refine step_of_badConfig fun hfacts => ?_
  obtain hroom | hlmax | ⟨r, r', hne, hcode⟩ | happ | hresp | hutc := hbad
  · have := hfacts.room
    omega
  · have := hfacts.lmax
    omega
  · exact hne (nakByte_injective hfacts.nak hcode)
  · exact happ hfacts.appAck
  · exact hresp hfacts.maxPayloadResp
  · exact hutc hfacts.utcResp

end Sys2Proof.Machine

/-! PROOFS. The arithmetic of the checksum (spec/40_checksum.md R81 to R87): the accumulators in closed form, what a change of one
byte does to them, and the residue of a stamped sequence. -/

namespace Sys2Proof.Machine

open Sys2Proof.Statements

theorem Acc.ext_toNat {a a' : Acc} (h1 : a.c1.toNat = a'.c1.toNat) (h2 : a.c2.toNat = a'.c2.toNat) : a = a' := by
  obtain ⟨c1, c2⟩ := a
  obtain ⟨c1', c2'⟩ := a'
  rw [BitVec.eq_of_toNat_eq (x := c1) h1, BitVec.eq_of_toNat_eq (x := c2) h2]

/-- The accumulators of a sequence from the seeds are reduced (R25, R81). -/
theorem foldl_ckSeed_lt (bytes : List Byte) :
    (bytes.foldl ckAccumulate ckSeed).c1.toNat < 255 ∧ (bytes.foldl ckAccumulate ckSeed).c2.toNat < 255 :=
  foldl_ckAccumulate_lt bytes ckSeed (by decide) (by decide)

/-! ### The closed form (R87 item 2) -/

/-- The first accumulator is the sum of the bytes on top of where it started. -/
theorem foldl_ckAccumulate_c1 (bytes : List Byte) {a : Acc} (h : a.c1.toNat < 255) :
    (bytes.foldl ckAccumulate a).c1.toNat = (a.c1.toNat + byteSum bytes) % 255 := by
  induction bytes generalizing a with
  | nil => exact (Nat.mod_eq_of_lt h).symm
  | cons b bs ih =>
    rw [List.foldl_cons, ih (ckAccumulate_lt a b).1, ckAccumulate_c1, byteSum, Nat.mod_add_mod, Nat.add_assoc]

/-- The second accumulator takes the first once for each byte, so a byte counts once for itself and once for each byte behind
it. -/
theorem foldl_ckAccumulate_c2 (bytes : List Byte) {a : Acc} (h : a.c2.toNat < 255) :
    (bytes.foldl ckAccumulate a).c2.toNat =
      (a.c2.toNat + a.c1.toNat * bytes.length + weightedSum bytes) % 255 := by
  induction bytes generalizing a with
  | nil => exact (Nat.mod_eq_of_lt h).symm
  | cons b bs ih =>
    have hsum : (a.c1.toNat + b.toNat) % 255 ≡ a.c1.toNat + b.toNat [MOD 255] := Nat.mod_modEq _ _
    rw [List.foldl_cons, ih (ckAccumulate_lt a b).2, ckAccumulate_c1, ckAccumulate_c2, weightedSum, List.length_cons]
    calc (a.c2.toNat + (a.c1.toNat + b.toNat) % 255) % 255 + (a.c1.toNat + b.toNat) % 255 * bs.length + weightedSum bs
        ≡ (a.c2.toNat + (a.c1.toNat + b.toNat)) + (a.c1.toNat + b.toNat) * bs.length + weightedSum bs [MOD 255] :=
          (((Nat.mod_modEq _ _).trans (hsum.add_left _)).add (hsum.mul_right _)).add_right _
      _ = a.c2.toNat + a.c1.toNat * (bs.length + 1) + ((bs.length + 1) * b.toNat + weightedSum bs) := by ring

/-! ### One byte changed (R87 item 3) -/

@[simp] theorem byteSum_append (xs ys : List Byte) : byteSum (xs ++ ys) = byteSum xs + byteSum ys := by
  induction xs with
  | nil => exact (Nat.zero_add _).symm
  | cons b bs ih => rw [List.cons_append, byteSum, byteSum, ih, Nat.add_assoc]

/-- The finished word determines reduced accumulators: the high byte and the low byte give the first, and the first and the
high byte the second (R83). -/
theorem ckFinish_injective {a a' : Acc} (h1 : a.c1.toNat < 255) (h2 : a.c2.toNat < 255) (h1' : a'.c1.toNat < 255)
    (h2' : a'.c2.toNat < 255) (h : ckFinish a = ckFinish a') : a = a' := by
  have hword := congrArg BitVec.toNat h
  rw [ckFinish_toNat, ckFinish_toNat] at hword
  have hhigh : (a.c1.toNat + a.c2.toNat) % 255 = (a'.c1.toNat + a'.c2.toNat) % 255 := by omega
  rw [hhigh] at hword
  have hfirst : a.c1.toNat = a'.c1.toNat := by omega
  exact Acc.ext_toNat hfirst (by omega)

/-- CK.BYTE sees a byte modulo 255 only (R82). -/
theorem ckAccumulate_congr (a : Acc) {b b' : Byte} (h : b.toNat % 255 = b'.toNat % 255) :
    ckAccumulate a b = ckAccumulate a b' := by
  apply Acc.ext_toNat
  · rw [ckAccumulate_c1, ckAccumulate_c1]; omega
  · rw [ckAccumulate_c2, ckAccumulate_c2]; omega

theorem checksum_single_byte_iff (pre post : List Byte) (b b' : Byte) :
    checksum (pre ++ b :: post) = checksum (pre ++ b' :: post) ↔ b.toNat % 255 = b'.toNat % 255 := by
  constructor
  · intro h
    have hlt := foldl_ckSeed_lt (pre ++ b :: post)
    have hlt' := foldl_ckSeed_lt (pre ++ b' :: post)
    have hacc := congrArg (fun a : Acc => a.c1.toNat) (ckFinish_injective hlt.1 hlt.2 hlt'.1 hlt'.2 h)
    simp only [foldl_ckAccumulate_c1 _ (show ckSeed.c1.toNat < 255 by decide), byteSum_append, byteSum] at hacc
    omega
  · intro h
    rw [checksum, checksum, List.foldl_append, List.foldl_append, List.foldl_cons, List.foldl_cons,
      ckAccumulate_congr _ h]

/-- Two bytes agree modulo 255 exactly when they are equal or are 0x00 and 0xFF. -/
theorem byte_mod_255_iff (b b' : Byte) :
    b.toNat % 255 = b'.toNat % 255 ↔ b = b' ∨ (b = 0x00 ∧ b' = 0xFF) ∨ (b = 0xFF ∧ b' = 0x00) := by
  have hb := b.isLt
  have hb' := b'.isLt
  simp only [← BitVec.toNat_inj, show (0x00 : Byte).toNat = 0 from rfl, show (0xFF : Byte).toNat = 255 from rfl]
  omega

/-! ### The result bytes and the residue (R87 items 4 and 5) -/

theorem hiByte_ckFinish (a : Acc) : (hiByte (ckFinish a)).toNat = 255 - (a.c1.toNat + a.c2.toNat) % 255 := by
  rw [hiByte_toNat, ckFinish_toNat]
  omega

theorem loByte_ckFinish (a : Acc) :
    (loByte (ckFinish a)).toNat = 255 - (a.c1.toNat + (hiByte (ckFinish a)).toNat) % 255 := by
  rw [hiByte_ckFinish, loByte_toNat, ckFinish_toNat]
  omega

/-- The two result bytes bring both accumulators to 0. -/
theorem ckAccumulate_result (a : Acc) :
    ckAccumulate (ckAccumulate a (hiByte (ckFinish a))) (loByte (ckFinish a)) = ⟨0, 0⟩ := by
  have hhigh := hiByte_ckFinish a
  have hlow := loByte_ckFinish a
  have hfirst : (ckAccumulate (ckAccumulate a (hiByte (ckFinish a))) (loByte (ckFinish a))).c1.toNat = 0 := by
    rw [ckAccumulate_c1, ckAccumulate_c1]
    omega
  apply Acc.ext_toNat hfirst
  rw [ckAccumulate_c1] at hfirst
  rw [ckAccumulate_c2, hfirst, ckAccumulate_c2]
  show _ = 0
  omega

/-! ### The obligations -/

/-- Settles O5: the closed forms of the accumulators from the seeds 170 and 0, then CK.FINAL's packing. -/
theorem checksumClosedForm : Obligations.ChecksumClosedForm := by
  intro s bytes
  refine ⟨checksum bytes, (bytes.foldl ckAccumulate ckSeed).c1.toNat, (bytes.foldl ckAccumulate ckSeed).c2.toNat, _, _,
    exec_checksum bytes s, foldl_ckAccumulate_c1 bytes (by decide), ?_, rfl, rfl, ckFinish_toNat _⟩
  rw [foldl_ckAccumulate_c2 bytes (by decide), show ckSeed.c2.toNat = 0 from rfl, Nat.zero_add]
  rfl

/-- Settles O6: the checksum sees the byte modulo 255 only. -/
theorem checksumSingleByteChange : Obligations.ChecksumSingleByteChange := fun pre post b b' =>
  (checksum_single_byte_iff pre post b b').trans (byte_mod_255_iff b b')

/-- Settles O7: each result byte is 255 less a remainder by 255, and the two complete the sums to multiples of 255. -/
theorem checksumRangeAndResidue : Obligations.ChecksumRangeAndResidue := by
  intro bytes
  refine ⟨fun h => ?_, fun h => ?_, ?_⟩
  · have hhigh := hiByte_ckFinish (bytes.foldl ckAccumulate ckSeed)
    rw [checksum] at h
    rw [h, show (0 : Byte).toNat = 0 from rfl] at hhigh
    omega
  · have hlow := loByte_ckFinish (bytes.foldl ckAccumulate ckSeed)
    rw [checksum] at h
    rw [h, show (0 : Byte).toNat = 0 from rfl] at hlow
    omega
  · rw [stamped, List.foldl_append]
    exact ckAccumulate_result (bytes.foldl ckAccumulate ckSeed)

end Sys2Proof.Machine

/-! PROOFS. The worker's small steps against the whole operations (spec/00_scope.md R8, spec/42_assembler.md R101, R103,
spec/44_transport_boundary.md R153): the steps of one `ingest`, of handing its events on, and of one pass of the loop. -/

namespace Sys2Proof.Machine

open Sys2Proof.Statements

/-! ### Runs of the machine -/

/-- Any number of steps leads from one state to the other. -/
abbrev Steps : State → State → Prop := Relation.ReflTransGen fun s t => step s = .next t

theorem run_succ {s t : State} (h : step s = .next t) (k : Nat) :
    Host.Core.run Sys2Proof.core (k + 1) s = Host.Core.run Sys2Proof.core k t := by
  have hstep : Sys2Proof.core.step s = .next t := h
  simp only [Host.Core.run, hstep]

/-- Steps that lead to a state are a run that ends there. -/
theorem Steps.exists_run {s t : State} (h : Steps s t) : ∃ k, Host.Core.run Sys2Proof.core k s = .next t := by
  induction h using Relation.ReflTransGen.head_induction_on with
  | refl => exact ⟨0, rfl⟩
  | head hstep _ ih =>
    obtain ⟨k, hk⟩ := ih
    exact ⟨k + 1, (run_succ hstep k).trans hk⟩

theorem Steps.of_step {s t : State} (h : step s = .next t) : Steps s t := Relation.ReflTransGen.single h

/-- Writing the position that is there already changes nothing. -/
theorem State.with_phase {s : State} {p : Phase} (h : s.phase = p) : ({ s with phase := p } : State) = s := by
  subst h
  rfl

/-! ### One `ingest` in small steps (R101, R103) -/

/-- The loop's iterations, then its stop. -/
theorem asmLoop_steps (n : Nat) {s : State} {rest : List Byte} (hc : configOk s.cfg = true) (hi : s.inputs = [])
    (hp : s.phase = .loop rest) (hn : s.buf.length < n) : Steps s { asmLoop n s with phase := afterStop rest } := by
  induction n generalizing s with
  | zero => omega
  | succ n ih =>
    have hstep := (step_loop hc hi hp).trans (exec_selected s hc)
    by_cases hstops : (asmSelect s.cfg s.buf).stops = true
    · rw [if_pos hstops, State.stopLoop_of_loop hp] at hstep
      rw [asmLoop, if_pos hstops]
      exact .of_step hstep
    · rw [if_neg hstops] at hstep
      rw [asmLoop, if_neg hstops]
      have hframe := s.fire_frame (asmSelect s.cfg s.buf)
      obtain ⟨e, k, h1, hk, hfire⟩ := s.fire_progress (by simpa using hstops)
      have hlt : (s.fire (asmSelect s.cfg s.buf)).buf.length < n := by
        rw [hfire, State.recover_buf, List.length_drop]
        omega
      exact .head hstep (ih (by rwa [hframe.cfg]) (hframe.inputs.trans hi) (hframe.phase.trans hp) hlt)

/-- From the overflow position a step makes room for the next piece (R102). -/
theorem step_overflow {s : State} {chunk : List Byte} (hc : configOk s.cfg = true) (hi : s.inputs = [])
    (hp : s.phase = .overflow chunk) :
    step s = .next { s.makeRoom (chunk.take s.cfg.cap).length with
      phase := .append (chunk.take s.cfg.cap) (chunk.drop s.cfg.cap) } := by
  rw [step_eq_workerTurn hc hi, State.workerTurn_of_overflow hp, ← State.makeRoom_phase]
  exact exec_asmOverflow (s := { s with phase := .append (chunk.take s.cfg.cap) (chunk.drop s.cfg.cap) }) hc
    (List.length_take_le _ _)

/-- From the append position a step appends the piece that fits (R104). -/
theorem step_append_fits {s : State} {piece rest : List Byte} (hc : configOk s.cfg = true) (hi : s.inputs = [])
    (hp : s.phase = .append piece rest) (hfit : s.buf.length + piece.length ≤ s.cfg.cap) :
    step s = .next { s.append piece with phase := .loop rest } :=
  (step_append hc hi hp).trans (exec_asmAppend (s := { s with phase := .loop rest }) hc hfit)

/-- A piece in small steps: the overflow check, the append, and the loop. -/
theorem ingestPiece_steps {s : State} {chunk : List Byte} (hc : configOk s.cfg = true) (hi : s.inputs = [])
    (hp : s.phase = .overflow chunk) :
    Steps s { s.ingestPiece (chunk.take s.cfg.cap) with phase := afterStop (chunk.drop s.cfg.cap) } := by
  have hfit := s.makeRoom_fits _ (List.length_take_le s.cfg.cap chunk)
  have hroom := s.makeRoom_frame (chunk.take s.cfg.cap).length
  have hoverflow := step_overflow hc hi hp
  rw [State.ingestPiece_eq_settle, State.settle]
  generalize s.makeRoom (chunk.take s.cfg.cap).length = u at hfit hroom hoverflow ⊢
  generalize chunk.take s.cfg.cap = piece at hfit hoverflow ⊢
  generalize chunk.drop s.cfg.cap = rest at hoverflow ⊢
  have hcu : configOk u.cfg = true := by rwa [hroom.cfg]
  have hiu : u.inputs = [] := hroom.inputs.trans hi
  have happend : step { u with phase := .append piece rest } = .next { u.append piece with phase := .loop rest } :=
    step_append_fits (s := { u with phase := .append piece rest }) hcu hiu rfl (by rw [hroom.cfg]; exact hfit)
  have hloop := asmLoop_steps ((u.append piece).buf.length + 1) (s := { u.append piece with phase := .loop rest })
    hcu hiu rfl (Nat.lt_succ_self _)
  rw [asmLoop_phase] at hloop
  exact .head hoverflow (.head happend hloop)

/-- A chunk that fits one piece. -/
theorem ingestChunk_one_steps {s : State} {chunk : List Byte} (hc : configOk s.cfg = true) (hi : s.inputs = [])
    (hone : chunk.length ≤ s.cfg.cap) :
    Steps { s with phase := .overflow chunk } { s.ingestPiece chunk with phase := .top } := by
  have hpiece := ingestPiece_steps (s := { s with phase := .overflow chunk }) hc hi rfl
  rwa [State.ingestPiece_phase, List.take_of_length_le hone, List.drop_of_length_le hone] at hpiece

/-- The pieces of a chunk, one after the other (R103). -/
theorem ingestPieces_steps (n : Nat) {chunk : List Byte} {s : State} (hc : configOk s.cfg = true) (hi : s.inputs = [])
    (hn : chunk.length ≤ n) :
    Steps { s with phase := .overflow chunk } { ingestPieces n chunk s with phase := .top } := by
  have hroom := ((configOk_iff s.cfg).mp hc).room
  induction n generalizing chunk s with
  | zero => exact ingestChunk_one_steps hc hi (by omega)
  | succ n ih =>
    by_cases hone : chunk.length ≤ s.cfg.cap
    · rw [ingestPieces_of_le _ hone]
      exact ingestChunk_one_steps hc hi hone
    · have hfirst := ingestPiece_steps (s := { s with phase := .overflow chunk }) hc hi rfl
      have hrest : chunk.drop s.cfg.cap ≠ [] := by
        intro h
        have := congrArg List.length h
        rw [List.length_drop, List.length_nil] at this
        omega
      have hframe := s.ingestPiece_frame (chunk.take s.cfg.cap)
      rw [State.ingestPiece_phase, afterStop, if_neg hrest] at hfirst
      have hlen : (chunk.drop s.cfg.cap).length ≤ n := by rw [List.length_drop]; omega
      rw [ingestPieces_of_gt n (by omega)]
      exact hfirst.trans (ih (by rwa [hframe.cfg]) (hframe.inputs.trans hi) hlen (by rwa [hframe.cfg]))

/-- A whole `ingest` in small steps. -/
theorem ingestChunk_steps {s : State} (chunk : List Byte) (hc : configOk s.cfg = true) (hi : s.inputs = []) :
    Steps { s with phase := .overflow chunk } { s.ingestChunk chunk with phase := .top } :=
  ingestPieces_steps _ hc hi (Nat.le_refl _)

/-! ### Handing replies and events on (R49, R153) -/

/-- The replies are offered one step at a time. -/
theorem offer_steps (frames : List (List Byte)) {s : State} (hc : configOk s.cfg = true) (hi : s.inputs = [])
    (hp : s.phase = .top) (hr : s.replies = frames) : Steps s (frames.foldl State.enqueue { s with replies := [] }) := by
  induction frames generalizing s with
  | nil =>
    rw [List.foldl_nil, ← hr]
  | cons bytes rest ih =>
    have hstep : step s = .next (({ s with replies := rest } : State).enqueue bytes) := by
      rw [step_eq_outputTurn hc hi (State.inIngest_eq_false (.inl hp)), State.outputTurn_of_reply hr]
      exact exec_txEnqueue (s := { s with replies := rest }) hc bytes
    have hframe := ({ s with replies := rest } : State).enqueue_frame bytes
    have hrest := ih (s := ({ s with replies := rest } : State).enqueue bytes) (by rwa [hframe.cfg])
      (hframe.inputs.trans hi) (hframe.phase.trans hp) hframe.replies
    rw [← State.enqueue_withReplies] at hrest
    exact .head hstep hrest

theorem State.enqueueAll_withEvents (r : List Event) (frames : List (List Byte)) (s : State) :
    frames.foldl State.enqueue { s with events := r } = { frames.foldl State.enqueue s with events := r } := by
  induction frames generalizing s with
  | nil => rfl
  | cons bytes frames ih => rw [List.foldl_cons, List.foldl_cons, State.enqueue_withEvents, ih]

theorem State.deliver_withEvents (r : List Event) (s : State) (e : Event) :
    ({ s with events := r } : State).deliver e = { s.deliver e with events := r } := by
  cases e with
  | frame fr => exact State.enqueueAll_withEvents r _ s
  | loss | resync => rfl

/-- The events are handed on one at a time: a frame's step dispatches it and its replies are offered before the next event; a
report is dropped. -/
theorem hand_steps (events : List Event) {s : State} (hc : configOk s.cfg = true) (hi : s.inputs = [])
    (hp : s.phase = .top) (hr : s.replies = []) (he : s.events = events) :
    Steps s (events.foldl State.deliver { s with events := [] }) := by
  induction events generalizing s with
  | nil =>
    rw [List.foldl_nil, ← he]
  | cons e rest ih =>
    have hn := State.inIngest_eq_false (.inl hp)
    have hone : Steps s (({ s with events := rest } : State).deliver e) := by
      cases e with
      | frame fr =>
        have hstep : step s = .next { s with events := rest, replies := dispatchFrame s.cfg fr } := by
          rw [step_eq_outputTurn hc hi hn, State.outputTurn_of_frame hr he]
          calc exec (classify s.cfg fr) { s with events := rest }
              = exec (.dispatch fr) { s with events := rest } := exec_classify fr { s with events := rest }
            _ = .next { s with events := rest, replies := s.replies ++ dispatchFrame s.cfg fr } :=
                exec_dispatch (s := { s with events := rest }) hc fr
            _ = _ := by rw [hr, List.nil_append]
        have hoffer := offer_steps _ (s := { s with events := rest, replies := dispatchFrame s.cfg fr }) hc hi hp rfl
        rw [← hr] at hoffer
        exact .head hstep hoffer
      | loss d =>
        exact .of_step (by rw [step_eq_outputTurn hc hi hn, State.outputTurn_of_loss hr he]; rfl)
      | resync c => exact .of_step (by rw [step_eq_outputTurn hc hi hn, State.outputTurn_of_resync hr he]; rfl)
    have hframe := ({ s with events := rest } : State).deliver_frame e
    have hrest := ih (s := ({ s with events := rest } : State).deliver e) (by rwa [hframe.cfg]) (hframe.inputs.trans hi)
      (hframe.phase.trans hp) (hframe.replies.trans hr) hframe.events
    rw [← State.deliver_withEvents] at hrest
    exact hone.trans hrest

/-! ### One pass of the loop (R153) -/

/-- WORKER.LOOP between operations is one pass (log 26). -/
theorem exec_workerLoop {s : State} (hc : configOk s.cfg = true) (hb : s.busy = false) :
    exec .workerLoop s = .next s.workerPass := by
  calc exec .workerLoop s
      = s.configured (if s.busy then .refused .concurrentOperation else .next s.workerPass) := rfl
    _ = .next s.workerPass := by rw [State.configured_of_ok hc, hb, if_neg Bool.false_ne_true]

section Pass

variable {s : State}

/-- With bytes queued, a pass drains, ingests and hands every event on. -/
theorem State.workerPass_of_queued (hp : s.phase = .top) (hq : s.inbound ≠ []) :
    s.workerPass = (s.takeDrained.ingestChunk s.drained).events.foldl State.deliver
      { s.takeDrained.ingestChunk s.drained with events := [] } := by
  have hne : s.inbound.isEmpty = false := by simpa using hq
  have hawake : s.awake = (s, true) := by simp only [State.awake, hp, hne, Bool.false_eq_true, if_false]
  simp only [State.workerPass, hawake, if_true]

/-- With none queued and no signal, it waits. -/
theorem State.workerPass_of_quiet (hn : s.inIngest = false) (hq : s.inbound = []) (hw : s.wake = false) :
    s.workerPass = { s with phase := .waiting } := by
  obtain hp | hp := State.phase_of_not_inIngest hn
  · have hawake : s.awake = ({ s with phase := .waiting }, false) := by
      simp only [State.awake, hp, hq, hw, List.isEmpty_nil, if_true, Bool.false_eq_true, if_false]
    simp only [State.workerPass, hawake, Bool.false_eq_true, if_false]
  · have hawake : s.awake = (s, false) := by simp only [State.awake, hp, hw, Bool.false_eq_true, if_false]
    simp only [State.workerPass, hawake, Bool.false_eq_true, if_false]
    exact (State.with_phase hp).symm

/-- With none queued and the signal raised, it clears the signal and is at the top. -/
theorem State.workerPass_of_signal (hn : s.inIngest = false) (hq : s.inbound = []) (hw : s.wake = true) :
    s.workerPass = { s with wake := false, phase := .top } := by
  obtain hp | hp := State.phase_of_not_inIngest hn
  · have hawake : s.awake = ({ s with wake := false }, false) := by
      simp only [State.awake, hp, hq, hw, List.isEmpty_nil, if_true]
    simp only [State.workerPass, hawake, Bool.false_eq_true, if_false]
    exact (State.with_phase (s := { s with wake := false }) hp).symm
  · have hawake : s.awake = ({ s with wake := false, phase := .top }, false) := by
      simp only [State.awake, hp, hq, hw, List.isEmpty_nil, if_true, Bool.not_true]
    simp only [State.workerPass, hawake, Bool.false_eq_true, if_false]

/-- A waiting worker without the signal waits on. -/
theorem State.workerPass_of_asleep (hp : s.phase = .waiting) (hw : s.wake = false) : s.workerPass = s := by
  have hawake : s.awake = (s, false) := by simp only [State.awake, hp, hw, Bool.false_eq_true, if_false]
  simp only [State.workerPass, hawake, Bool.false_eq_true, if_false]

/-- A waiting worker with the signal and bytes queued goes on from the top. -/
theorem State.workerPass_of_woken (hp : s.phase = .waiting) (hq : s.inbound ≠ []) (hw : s.wake = true) :
    s.workerPass = ({ s with wake := false, phase := .top } : State).workerPass := by
  have hne : s.inbound.isEmpty = false := by simpa using hq
  have hawake : s.awake = ({ s with wake := false, phase := .top }, true) := by
    simp only [State.awake, hp, hne, hw, if_true, Bool.not_false]
  have htop : ({ s with wake := false, phase := .top } : State).awake = ({ s with wake := false, phase := .top }, true) := by
    simp only [State.awake, hne, Bool.false_eq_true, if_false]
  simp only [State.workerPass, hawake, htop]

/-- A pass over queued bytes in small steps. -/
theorem workerPass_steps_of_queued (hc : configOk s.cfg = true) (hb : s.busy = false) (hi : s.inputs = [])
    (hp : s.phase = .top) (hq : s.inbound ≠ []) : Steps s s.workerPass := by
  obtain ⟨-, -, hr⟩ := State.not_busy hb
  have hdrain := (step_idle hc hi hb).trans (congrArg _ (State.idleTurn_of_queued hp hq))
  have hframe := s.takeDrained.ingestChunk_frame s.drained
  have hingest := ingestChunk_steps (s := s.takeDrained) s.drained hc hi
  rw [State.with_phase (hframe.phase.trans hp)] at hingest
  rw [State.workerPass_of_queued hp hq]
  exact .head hdrain (hingest.trans (hand_steps _ (by rwa [hframe.cfg]) (hframe.inputs.trans hi) (hframe.phase.trans hp)
    (hframe.replies.trans hr) rfl))

/-- With nothing queued, at most two steps reach what a pass does: wait, and be woken. -/
theorem workerPass_steps_of_empty (hc : configOk s.cfg = true) (hb : s.busy = false) (hi : s.inputs = [])
    (hq : s.inbound = []) : Steps s s.workerPass := by
  obtain ⟨hn, he, hr⟩ := State.not_busy hb
  obtain hp | hp := State.phase_of_not_inIngest hn
  · have hwait := (step_idle hc hi hb).trans (congrArg _ (State.idleTurn_of_empty hp hq))
    obtain ⟨wake, hw⟩ : ∃ wake, s.wake = wake := ⟨_, rfl⟩
    cases wake with
    | false =>
      rw [State.workerPass_of_quiet hn hq hw]
      exact .of_step hwait
    | true =>
      have hwake := (step_idle (s := { s with phase := .waiting }) hc hi (State.busy_eq_false rfl he hr)).trans
        (congrArg _ (State.idleTurn_of_woken (s := { s with phase := .waiting }) rfl hw))
      rw [State.workerPass_of_signal hn hq hw]
      exact .head hwait (Steps.of_step hwake)
  · obtain ⟨wake, hw⟩ : ∃ wake, s.wake = wake := ⟨_, rfl⟩
    cases wake with
    | false =>
      rw [State.workerPass_of_asleep hp hw]
    | true =>
      rw [State.workerPass_of_signal hn hq hw]
      exact .of_step ((step_idle hc hi hb).trans (congrArg _ (State.idleTurn_of_woken hp hw)))

/-- A pass in small steps, wherever the worker stands between operations. -/
theorem workerPass_steps (hc : configOk s.cfg = true) (hb : s.busy = false) (hi : s.inputs = []) :
    Steps s s.workerPass := by
  obtain ⟨hn, he, hr⟩ := State.not_busy hb
  by_cases hq : s.inbound = []
  · exact workerPass_steps_of_empty hc hb hi hq
  · obtain hp | hp := State.phase_of_not_inIngest hn
    · exact workerPass_steps_of_queued hc hb hi hp hq
    · obtain ⟨wake, hw⟩ : ∃ wake, s.wake = wake := ⟨_, rfl⟩
      cases wake with
      | false =>
        rw [State.workerPass_of_asleep hp hw]
      | true =>
        rw [State.workerPass_of_woken hp hq hw]
        exact .head ((step_idle hc hi hb).trans (congrArg _ (State.idleTurn_of_woken hp hw)))
          (workerPass_steps_of_queued (s := { s with wake := false, phase := .top }) hc (State.busy_eq_false rfl he hr) hi rfl hq)

end Pass

/-! ### The same in port operations (R153) -/

theorem offerAll_cons {bytes : List Byte} {frames : List (List Byte)} {s t : State}
    (h : exec (.txEnqueue bytes) s = .next t) : offerAll (bytes :: frames) s = offerAll frames t := by
  conv_lhs => unfold offerAll
  simp only [h]

theorem handAll_frame {fr : Frame} {events : List Event} {s t : State} (h : exec (.dispatch fr) s = .next t) :
    handAll (.frame fr :: events) s = (offerAll t.replies { t with replies := [] }).bind (handAll events) := by
  conv_lhs => unfold handAll
  simp only [h]

/-- TX.ENQUEUE of each frame in order. -/
theorem offerAll_eq (frames : List (List Byte)) {s : State} (hc : configOk s.cfg = true) :
    offerAll frames s = some (frames.foldl State.enqueue s) := by
  induction frames generalizing s with
  | nil => rfl
  | cons bytes frames ih =>
    rw [offerAll_cons (exec_txEnqueue hc bytes)]
    exact ih (by rwa [State.enqueue_cfg])

/-- DISPATCH of each frame and TX.ENQUEUE of its replies, event by event. -/
theorem handAll_eq (events : List Event) {s : State} (hc : configOk s.cfg = true) (hr : s.replies = []) :
    handAll events s = some (events.foldl State.deliver s) := by
  induction events generalizing s with
  | nil => rfl
  | cons e events ih =>
    have hframe := s.deliver_frame e
    have hrest := ih (s := s.deliver e) (by rwa [hframe.cfg]) (hframe.replies.trans hr)
    cases e with
    | frame fr =>
      have htaken : ({ s with replies := [] } : State) = s := by rw [← hr]
      rw [handAll_frame (exec_dispatch hc fr), hr, List.nil_append, htaken, offerAll_eq _ hc, Option.bind_some]
      exact hrest
    | loss d => exact hrest
    | resync c => exact hrest

/-! ### The obligations -/

/-- Settles O26: piece by piece, the overflow check, the append and the loop's iterations. -/
theorem ingestIsItsSmallSteps : Obligations.IngestIsItsSmallSteps := by
  intro s chunk hc hp hi
  have hsteps := ingestChunk_steps chunk hc hi
  rw [State.with_phase ((s.ingestChunk_frame chunk).phase.trans hp)] at hsteps
  rw [exec_ingest hc (State.inIngest_eq_false (.inl hp))]
  exact hsteps.exists_run

/-- Settles O47: the pass in each of its five cases. -/
theorem workerLoopPass : Obligations.WorkerLoopPass := by
  intro s hc hb
  obtain ⟨hn, he, hr⟩ := State.not_busy hb
  rw [exec_workerLoop hc hb]
  refine ⟨fun hp hq => ?_, fun hq hw => ?_, fun hq hw => ?_, fun hp hq hw => ?_, fun hp hq hw => ?_⟩
  · have hframe := s.takeDrained.ingestChunk_frame s.drained
    refine ⟨s.drained, s.takeDrained.inbound, s.takeDrained.ingestChunk s.drained, s.workerPass, State.drained_ne_nil hq,
      s.drained_append.symm, exec_ingest (s := s.takeDrained) hc hn s.drained, ?_, rfl⟩
    rw [State.workerPass_of_queued hp hq]
    exact handAll_eq _ (by rwa [hframe.cfg]) (hframe.replies.trans hr)
  · rw [State.workerPass_of_quiet hn hq hw]
  · rw [State.workerPass_of_signal hn hq hw]
  · rw [State.workerPass_of_woken hp hq hw,
      exec_workerLoop (s := { s with wake := false, phase := .top }) hc (State.busy_eq_false rfl he hr)]
  · rw [State.workerPass_of_asleep hp hw]

/-- Settles O48: the small steps of a pass, in each case. -/
theorem workerLoopIsItsSmallSteps : Obligations.WorkerLoopIsItsSmallSteps := by
  intro s hc hb hi
  rw [exec_workerLoop hc hb]
  exact (workerPass_steps hc hb hi).exists_run

end Sys2Proof.Machine
